-- ==== Sys2Proof/Config.lean ====
section
/-!
DEFINITION. The sizes of the part (00_scope.md; R1, R50, R67). The specification leaves no value undefined, so there is
no free value here.
-/

namespace Sys2Proof

/-- A slot number of the Indication Table, 0–63 (R1). -/
abbrev SlotIx := Fin 64

/-- A lamp group, 0–23 (R50). -/
abbrev Group := Fin 24

/-- A drive point of the panel, 0–95 (R67). -/
abbrev Point := Fin 96

/-- A frame of the cadence cycle, 0–63 (R85). -/
abbrev Frame := Fin 64

end Sys2Proof
end

