-- ==== Sys2Proof/Word.lean ====
section
/-!
DEFINITION. The words the links carry (R183, R184, R185): bytes, and the two-byte fields that are sent most
significant byte first.
-/

namespace Sys2Proof

/-- One byte of a frame (R184). -/
abbrev Byte := BitVec 8

/-- A two-byte field: a key or a notice-kind mask (R4, R185). -/
abbrev Word16 := BitVec 16

end Sys2Proof
end

