-- ==== Sys2Proof/Syntax.lean ====
section
/-!
DEFINITION. The commands of the part: one constructor per row of spec/opcode_table.json, in the table's order.

A command from outside the part carries the microseconds since the moment reached (`dt`); an event inside the
part falls at a moment of its own (assumption 1). A request row names the link whose slot holds the request: the
request's own bytes are the ones its SEND put there (R136, R138; assumption 4).
-/

namespace Sys2Proof

/-- The two host links (00_scope.md, Links). -/
inductive Link where
  | a
  | b
deriving DecidableEq, Repr

/-- The link a rule calls "the other link" (00_scope.md, Links). -/
def Link.other : Link → Link
  | .a => .b
  | .b => .a

/-- The four operator keys (R100). -/
inductive KeyId where
  | ack
  | silence
  | reset
  | test
deriving DecidableEq, Repr

/-- A key contact, at the pin or debounced (R100). -/
inductive Contact where
  | opened
  | closed
deriving DecidableEq, Repr

/-- The commands. `bytes` are the whole bytes the host shifts in after the kind byte (R131). -/
inductive Instr where
  /-- PEEK (R134). `kind` is the kind byte, absent when select rises before it is complete (R131). -/
  | peek (dt : Nat) (l : Link) (kind : Option Byte) (bytes : List Byte)
  /-- SEND (R136). -/
  | send (dt : Nat) (l : Link) (bytes : List Byte)
  /-- FETCH (R141): as many bytes are shifted out after the status byte as the host shifts in. -/
  | fetch (dt : Nat) (l : Link) (bytes : List Byte)
  /-- LINK_RESET (R144). -/
  | linkReset (dt : Nat) (l : Link) (bytes : List Byte)
  /-- UNKNOWN_REQUEST (R181). -/
  | unknownRequest (l : Link)
  /-- ATTACH (R150). -/
  | attach (l : Link)
  /-- DETACH in mode WITHDRAW_ALL (R153). -/
  | detachWithdrawAll (l : Link)
  /-- DETACH in mode LEAVE (R153). -/
  | detachLeave (l : Link)
  /-- PING (R152). -/
  | ping (l : Link)
  /-- SET_ATTENTION (R172). -/
  | setAttention (l : Link)
  /-- COLLECT (R173). -/
  | collect (l : Link)
  /-- PERMIT with value grant (R162). -/
  | permitGrant (l : Link)
  /-- PERMIT with value withdraw (R162). -/
  | permitWithdraw (l : Link)
  /-- TAKEOVER (R163). -/
  | takeover (l : Link)
  /-- TAKEOVER_COMPLETE (R164). -/
  | takeoverComplete
  /-- YIELD (R161). -/
  | yieldRole (l : Link)
  /-- CLAIM_ORPHAN (R158). -/
  | claimOrphan (l : Link)
  /-- POST (R19). -/
  | post (l : Link)
  /-- AMEND (R21). -/
  | amend (l : Link)
  /-- CLEAR (R42). -/
  | clear (l : Link)
  /-- REASSERT (R43). -/
  | reassert (l : Link)
  /-- WITHDRAW (R23). -/
  | withdraw (l : Link)
  /-- FIND (R176). -/
  | find (l : Link)
  /-- QUERY (R177). -/
  | query (l : Link)
  /-- LIST_GROUP (R178). -/
  | listGroup (l : Link)
  /-- PANEL_STATUS (R179). -/
  | panelStatus (l : Link)
  /-- READ_MAP (R80). -/
  | readMap (l : Link)
  /-- ACKNOWLEDGE in HANDLES mode (R45). -/
  | acknowledgeHandles (l : Link)
  /-- ACKNOWLEDGE in ALL_VISIBLE mode (R46). -/
  | acknowledgeAllVisible (l : Link)
  /-- REMOTE_RESET in HANDLES mode (R47). -/
  | remoteResetHandles (l : Link)
  /-- REMOTE_RESET in ALL_VISIBLE mode (R47). -/
  | remoteResetAllVisible (l : Link)
  /-- SILENCE from the primary (R114). -/
  | silence (l : Link)
  /-- RETIRE (R24). -/
  | retire (l : Link)
  /-- STAGE_MAP (R73). -/
  | stageMap (l : Link)
  /-- COMMIT_MAP (R75). -/
  | commitMap (l : Link)
  /-- ABORT_MAP (R79). -/
  | abortMap (l : Link)
  /-- LAMP_TEST (R95). -/
  | lampTest (l : Link)
  /-- CONFIGURE (R180). -/
  | configure (l : Link)
  /-- RESTART (R25). -/
  | restart (l : Link)
  /-- ACK_KEY_PRESS (R105). -/
  | ackKeyPress
  /-- SILENCE_KEY_PRESS (R106). -/
  | silenceKeyPress
  /-- RESET_KEY_PRESS (R107). -/
  | resetKeyPress
  /-- TEST_KEY_PRESS (R108). -/
  | testKeyPress
  /-- TEST_KEY_RELEASE (R92). -/
  | testKeyRelease
  /-- ACK_KEY_RELEASE (R111). -/
  | ackKeyRelease
  /-- RESET_KEY_RELEASE (R111). -/
  | resetKeyRelease
  /-- SILENCE_KEY_RELEASE (R103). -/
  | silenceKeyRelease
  /-- CHORD_FIRE (R111). -/
  | chordFire
  /-- TICK (R38). -/
  | tick
  /-- EXPIRE of the record in one slot (R31). -/
  | expire (i : SlotIx)
  /-- KEEPALIVE_EXPIRY of one link (R151). -/
  | keepaliveExpiry (l : Link)
  /-- FRAME_START (R88). -/
  | frameStart
  /-- COMMIT_COMPLETION (R76). -/
  | commitCompletion
  /-- LAMP_TEST_END (R93). -/
  | lampTestEnd
  /-- SUPPLY_SAMPLE (R123): the voltage at VSENSE in millivolts. -/
  | supplySample (mv : Nat)
  /-- HORN_PHASE_END (R117). -/
  | hornPhaseEnd
  /-- DEVICE_RESET (R26). -/
  | deviceReset
  /-- RESET_RELEASE (R130). -/
  | resetRelease
  /-- KEY_INPUT_CHANGE (R100): the key's input comes to stand at `c`. -/
  | keyInputChange (dt : Nat) (k : KeyId) (c : Contact)
deriving DecidableEq, Repr

end Sys2Proof
end

