-- ==== Sys2Proof/Decode.lean ====
section
/-!
DEFINITION. Words that spell a command. No row of spec/opcode_table.json gives its command any bits, so no word spells
one (assumption 14). The bytes of the links are read by Machine/Operands.lean and Machine/Transport.lean.
-/

namespace Sys2Proof

/-- The command a word spells by the table's bits: none, since no row of the table gives bits. -/
def decodeTableWord (_nbits _w : Nat) : Option Instr :=
  none

end Sys2Proof
end

