-- ==== Sys2Proof/Machine/State.lean ====
section
/-!
DEFINITION. The state of the part, block by block as the block diagram of 00_scope.md has it, and its value after
device reset. Claim lists, visibility, the table's counts, ATTN and the horn outputs are functions of this state
(R50–R56, R1, R171, R117; assumption 8).
-/

namespace Sys2Proof.Machine

/-- One value for each link. -/
structure PerLink (α : Type) where
  a : α
  b : α
deriving DecidableEq, Repr

def PerLink.get {α : Type} (p : PerLink α) : Link → α
  | .a => p.a
  | .b => p.b

def PerLink.set {α : Type} (p : PerLink α) (l : Link) (x : α) : PerLink α :=
  match l with
  | .a => { p with a := x }
  | .b => { p with b := x }

/-- One value for each operator key. -/
structure PerKey (α : Type) where
  ack : α
  silence : α
  reset : α
  test : α
deriving DecidableEq, Repr

def PerKey.get {α : Type} (p : PerKey α) : KeyId → α
  | .ack => p.ack
  | .silence => p.silence
  | .reset => p.reset
  | .test => p.test

def PerKey.set {α : Type} (p : PerKey α) (k : KeyId) (x : α) : PerKey α :=
  match k with
  | .ack => { p with ack := x }
  | .silence => { p with silence := x }
  | .reset => { p with reset := x }
  | .test => { p with test := x }

/-- The result of a response frame (R182). -/
inductive Result where
  | ok
  | accepted
  | pending
  | noResponse
  | unknownRequest
  | noSession
  | denied
  | badRequest
  | staleHandle
  | notOwner
  | busy
  | wrongState
  | tableFull
  | duplicateKey
  | mapConflict
  | notFound
deriving DecidableEq, Repr

/-- A request frame's contents (R135). -/
structure Request where
  code : Byte
  seq : Byte
  payload : List Byte
deriving DecidableEq, Repr

/-- A response frame's contents (R142). -/
structure Response where
  seq : Byte
  result : Result
  payload : List Byte
deriving DecidableEq, Repr

/-- The retained response: the code and the response, which carries the sequence (R136, R137). -/
structure Retained where
  code : Byte
  response : Response
deriving DecidableEq, Repr

/-- The request slot of a Link Port (R136). -/
inductive ReqSlot where
  | empty
  | executing (r : Request)
  | answered (r : Response)
deriving DecidableEq, Repr

/-- A Link Port (R131–R146). `dataOut` is what its data-out line carried in the last whole transaction. -/
structure Port where
  slot : ReqSlot
  retained : Option Retained
  overrun : Bool
  frameError : Bool
  dataOut : List Byte
deriving DecidableEq, Repr

/-- A link's session state (R147). -/
inductive SessionState where
  | offline
  | standby
  | primary
  | lost
deriving DecidableEq, Repr

/-- A keepalive (R147, R151): interval and count in ticks, and the tick boundaries up to and including its start that
are still to come. -/
structure Keepalive where
  interval : Nat
  count : Nat
  startIn : Nat
deriving DecidableEq, Repr

/-- The supply level (R121). -/
inductive Level where
  | normal
  | low
  | critical
deriving DecidableEq, Repr

inductive RoleNotice where
  | gained
  | lost
  | vacant
deriving DecidableEq, Repr

inductive PermitNotice where
  | granted
  | withdrawn
deriving DecidableEq, Repr

inductive PeerNotice where
  | joined
  | left
  | lost
  | reset
deriving DecidableEq, Repr

inductive MapNotice where
  | committed
  | abandoned
deriving DecidableEq, Repr

inductive LampNotice where
  | started
  | ended
deriving DecidableEq, Repr

inductive AdoptionNotice where
  | adopted
  | conflict
deriving DecidableEq, Repr

/-- A notice set: each stored kind of R168 at most once, with its value. The KEY kind is held when some key is in
`key` (R110). CHANGES is not stored (R168). -/
structure NoticeSet where
  role : Option RoleNotice
  permit : Option PermitNotice
  peer : Option PeerNotice
  map : Option MapNotice
  supply : Option Level
  orphans : Bool
  key : PerKey Bool
  lamp : Option LampNotice
  purge : Bool
  adoption : Option AdoptionNotice
  restart : Bool
  table : Bool
deriving DecidableEq, Repr

def NoticeSet.none : NoticeSet :=
  { role := .none, permit := .none, peer := .none, map := .none, supply := .none, orphans := false
    key := { ack := false, silence := false, reset := false, test := false }
    lamp := .none, purge := false, adoption := .none, restart := false, table := false }

/-- What the Session Unit holds for one link (R147). `changed` is kept in ascending order. -/
structure LinkSession where
  state : SessionState
  keepalive : Option Keepalive
  failover : Bool
  mask : Word16
  notices : NoticeSet
  changed : List SlotIx
deriving DecidableEq, Repr

/-- A link out of session, with nothing held for it (R147, R154). -/
def LinkSession.out (st : SessionState) : LinkSession :=
  { state := st, keepalive := none, failover := false, mask := 0#16, notices := .none, changed := [] }

/-- The Session Unit (R147). `takeoverDue` is the link whose TAKEOVER waited for a commit that has ended, until the swap
has followed (R164; assumption 6). -/
structure SessionUnit where
  links : PerLink LinkSession
  primary : Option Link
  permit : Option Link
  waiting : Option Link
  takeoverDue : Option Link
deriving DecidableEq, Repr

/-- Class, in rank order (R5, R51). -/
inductive Class where
  | alarm
  | warning
  | status
  | advisory
deriving DecidableEq, Repr

inductive Latch where
  | none
  | ack
  | ackReset
deriving DecidableEq, Repr

inductive HornField where
  | quiet
  | sound
deriving DecidableEq, Repr

inductive OrphanPolicy where
  | drop
  | keep
  | adopt
deriving DecidableEq, Repr

/-- Annunciation state (R27). -/
inductive Annunciation where
  | steady
  | new
  | acked
  | clearedNew
  | awaitReset
deriving DecidableEq, Repr

/-- A present lifetime (R8): period and remaining ticks, the tick boundaries up to and including its start that are still
to come, and whether the boundary at which the count reaches 0 has come and its EXPIRE is still to be taken (R38, R40;
assumption 15). -/
structure Lifetime where
  period : Nat
  remaining : Nat
  startIn : Nat
  due : Bool
deriving DecidableEq, Repr

/-- An indication record (R5). The owner NONE is `none`; the glyph has bit k set when position k is in it (R185). -/
structure Record where
  owner : Option Link
  key : Word16
  group : Group
  cls : Class
  priority : Fin 16
  latch : Latch
  horn : HornField
  policy : OrphanPolicy
  glyph : Byte
  lifetime : Option Lifetime
  state : Annunciation
  silenced : Bool
deriving DecidableEq, Repr

/-- Why a record was retired (R10). -/
inductive Reason where
  | expired
  | acknowledged
  | reset
  | retiredByPrimary
deriving DecidableEq, Repr

/-- A tombstone (R10). -/
structure Tombstone where
  owner : Link
  key : Word16
  reason : Reason
  stateAt : Annunciation
deriving DecidableEq, Repr

/-- The three states of a slot, with what each holds (R1). -/
inductive Content where
  | free
  | live (r : Record)
  | tombstone (t : Tombstone)
deriving DecidableEq, Repr

/-- A slot: its generation and its contents (R1, R2). -/
structure Slot where
  gen : Byte
  content : Content
deriving DecidableEq, Repr

/-- The Indication Table: slots, arrival order from oldest to newest, low-table flag (R1, R9, R13). -/
structure Table where
  slots : Vector Slot 64
  arrival : List SlotIx
  low : Bool
deriving DecidableEq, Repr

/-- One group's entry of a map: point list and idle glyph (R68). -/
structure MapEntry where
  points : List Point
  idle : Byte
deriving DecidableEq, Repr

/-- The commit state (R71). -/
inductive Commit where
  | idle
  | pending
deriving DecidableEq, Repr

/-- The Output Map (R69, R71). -/
structure OutputMap where
  active : Vector MapEntry 24
  staged : Vector MapEntry 24
  commit : Commit
deriving DecidableEq, Repr

/-- The lamp test (R90). Points in time are microseconds since the release of device reset. -/
structure Lamp where
  running : Bool
  timedEnd : Option Nat
  keyHold : Bool
deriving DecidableEq, Repr

def Lamp.idle : Lamp :=
  { running := false, timedEnd := none, keyHold := false }

/-- The Panel Driver (R85, R87, R90). -/
structure PanelDriver where
  frame : Frame
  lamp : Lamp
  points : Vector Bool 96
deriving DecidableEq, Repr

inductive KeyMode where
  | isLocal
  | remote
deriving DecidableEq, Repr

/-- The chord timer; `timing` holds the moment its count ends (R111). -/
inductive Chord where
  | idle
  | timing (fires : Nat)
  | fired
deriving DecidableEq, Repr

/-- The Key Port (R100, R102, R111). `timing` is the moment a key's 20 ms began, while they are being timed. -/
structure KeyPort where
  pins : PerKey Contact
  debounced : PerKey Contact
  timing : PerKey (Option Nat)
  modes : PerKey KeyMode
  chord : Chord
  chordEnable : Bool
deriving DecidableEq, Repr

/-- The horn state (R115). -/
inductive HornState where
  | off
  | alarmTone
  | warningTone
deriving DecidableEq, Repr

/-- The Horn Driver: horn state, whether an on-phase runs and when the phase ends (R117), horn enable (R118). -/
structure HornDriver where
  state : HornState
  sounding : Bool
  phaseEnd : Nat
  enable : Bool
deriving DecidableEq, Repr

/-- The Supply Monitor (R121). -/
structure SupplyMonitor where
  level : Level
  recovery : Fin 2
  shedding : Bool
deriving DecidableEq, Repr

/-- The time bases, of one origin (R38, R85, R122): the moment reached, in microseconds, and the tick boundaries, whole
cadence cycles and samples taken. -/
structure TimeBase where
  clock : Nat
  ticks : Nat
  cycles : Nat
  samples : Nat
deriving DecidableEq, Repr

/-- The part, and the commands that wait for it, first in first out. -/
structure State where
  held : Bool
  time : TimeBase
  ports : PerLink Port
  sessions : SessionUnit
  table : Table
  map : OutputMap
  panel : PanelDriver
  keys : KeyPort
  horn : HornDriver
  supply : SupplyMonitor
  pending : List Instr
deriving DecidableEq, Repr

/-- No command of this part ends in a fault: what the specification calls a refusal is a result in a response (R182), and
a transport fault is a flag (R133). There is no constructor. -/
inductive Fault where
deriving DecidableEq, Repr

/-- Why a command has no meaning. -/
inductive Refusal where
  /-- Raised by exec alone, for a command whose meaning is not written yet; safe. No arm of exec raises it. -/
  | notModelled (mnemonic : String)
deriving DecidableEq, Repr

/-- A Link Port after device reset (R146). -/
def Port.reset : Port :=
  { slot := .empty, retained := none, overrun := false, frameError := false, dataOut := [] }

/-- Group g's entry of the default map (R70). -/
def MapEntry.default (g : Nat) : MapEntry :=
  { points := [Fin.ofNat 96 (4 * g), Fin.ofNat 96 (4 * g + 1), Fin.ofNat 96 (4 * g + 2), Fin.ofNat 96 (4 * g + 3)]
    idle := 0#8 }

/-- The default map (R70). -/
def defaultMap : Vector MapEntry 24 :=
  ⟨⟨(List.range 24).map MapEntry.default⟩, by simp⟩

/-- The part right after device reset, released (R26, R65, R70, R97, R120, R121, R146, R147; assumption 11). -/
def State.reset : State where
  held := false
  time := { clock := 0, ticks := 0, cycles := 0, samples := 0 }
  ports := { a := .reset, b := .reset }
  sessions :=
    { links := { a := .out .offline, b := .out .offline }
      primary := none, permit := none, waiting := none, takeoverDue := none }
  table := { slots := Vector.replicate 64 { gen := 0#8, content := .free }, arrival := [], low := false }
  map := { active := defaultMap, staged := defaultMap, commit := .idle }
  panel := { frame := 0, lamp := .idle, points := Vector.replicate 96 false }
  keys :=
    { pins := { ack := .opened, silence := .opened, reset := .opened, test := .opened }
      debounced := { ack := .opened, silence := .opened, reset := .opened, test := .opened }
      timing := { ack := none, silence := none, reset := none, test := none }
      modes := { ack := .isLocal, silence := .isLocal, reset := .isLocal, test := .isLocal }
      chord := .idle, chordEnable := true }
  horn := { state := .off, sounding := false, phaseEnd := 0, enable := true }
  supply := { level := .normal, recovery := 0, shedding := true }
  pending := []

end Sys2Proof.Machine
end

