-- ==== Sys2Proof/Machine/Operands.lean ====
section
/-!
DEFINITION. The bytes of the links: transaction kinds, CRC-8, request and response frames (R183, R184), field encodings
and the payload of every request (R185).
-/

namespace Sys2Proof.Machine

/-! ### Bytes and words -/

/-- The most significant byte of a two-byte field, sent first (R185). -/
def highByte (w : Word16) : Byte := w.extractLsb' 8 8

/-- The least significant byte of a two-byte field. -/
def lowByte (w : Word16) : Byte := w.extractLsb' 0 8

/-- A two-byte field from its bytes as sent. -/
def word16 (high low : Byte) : Word16 := high ++ low

/-- A two-byte field in the order it is sent. -/
def bytes16 (w : Word16) : List Byte := [highByte w, lowByte w]

/-- A count in one byte. -/
def byteOf (n : Nat) : Byte := BitVec.ofNat 8 n

/-- 0 or 1 (R185: enable, flag, yes/no). -/
def flagByte (b : Bool) : Byte := if b then 1#8 else 0#8

/-! ### Transaction kinds (R183) -/

inductive Kind where
  | peek
  | send
  | fetch
  | linkReset
  | unknown
deriving DecidableEq, Repr

/-- How the port takes a kind byte (R131, R183). -/
def kindOf (k : Byte) : Kind :=
  if k = 0x00#8 then .peek
  else if k = 0x01#8 then .send
  else if k = 0x02#8 then .fetch
  else if k = 0x0E#8 then .linkReset
  else .unknown

/-! ### CRC-8 (R184): generator x⁸+x²+x+1, register from 0, most significant bit first -/

/-- One bit's shift of the CRC register. -/
def crcShift (c : Byte) : Byte :=
  if c.msb then (c <<< 1) ^^^ 0x07#8 else c <<< 1

/-- One byte fed into the CRC register. -/
def crcFeed (c b : Byte) : Byte :=
  (List.range 8).foldl (fun x _ => crcShift x) (c ^^^ b)

/-- The CRC-8 of a run of bytes. -/
def crc8 (bytes : List Byte) : Byte :=
  bytes.foldl crcFeed 0x00#8

/-! ### Frames (R184) -/

/-- The most payload bytes a frame carries (R135, R142). -/
def maxPayload : Nat := 56

/-- The frame check of R135 on the bytes shifted in after the kind byte: the request of a well-formed frame, none of a
malformed one. Bytes after the CRC are ignored (R184). -/
def checkFrame (bytes : List Byte) : Option Request :=
  match bytes with
  | code :: seq :: len :: rest =>
    if len.toNat > maxPayload then none
    else match rest[len.toNat]? with
      | none => none
      | some crc =>
        let payload := rest.take len.toNat
        if crc = crc8 (code :: seq :: len :: payload) then some { code, seq, payload } else none
  | _ => none

/-- The result codes of R184. -/
def Result.code : Result → Byte
  | .ok => 0x00#8
  | .accepted => 0x01#8
  | .pending => 0x02#8
  | .noResponse => 0x03#8
  | .unknownRequest => 0x10#8
  | .noSession => 0x11#8
  | .denied => 0x12#8
  | .badRequest => 0x13#8
  | .staleHandle => 0x14#8
  | .notOwner => 0x15#8
  | .busy => 0x16#8
  | .wrongState => 0x17#8
  | .tableFull => 0x18#8
  | .duplicateKey => 0x19#8
  | .mapConflict => 0x1A#8
  | .notFound => 0x1B#8

/-- A response frame (R142, R184). -/
def responseFrame (r : Response) : List Byte :=
  let body := r.seq :: r.result.code :: byteOf r.payload.length :: r.payload
  body ++ [crc8 body]

/-- A request frame as a host sends it (R184): what `checkFrame` takes apart. -/
def requestFrame (r : Request) : List Byte :=
  let body := r.code :: r.seq :: byteOf r.payload.length :: r.payload
  body ++ [crc8 body]

/-! ### Request codes (R184) -/

def codeAttach : Byte := 0x10#8
def codeDetach : Byte := 0x11#8
def codePing : Byte := 0x12#8
def codeSetAttention : Byte := 0x13#8
def codeCollect : Byte := 0x14#8
def codePermit : Byte := 0x20#8
def codeTakeover : Byte := 0x21#8
def codeYield : Byte := 0x22#8
def codeClaimOrphan : Byte := 0x23#8
def codePost : Byte := 0x30#8
def codeAmend : Byte := 0x31#8
def codeClear : Byte := 0x32#8
def codeReassert : Byte := 0x33#8
def codeWithdraw : Byte := 0x34#8
def codeFind : Byte := 0x40#8
def codeQuery : Byte := 0x41#8
def codeListGroup : Byte := 0x42#8
def codePanelStatus : Byte := 0x43#8
def codeReadMap : Byte := 0x44#8
def codeAcknowledge : Byte := 0x50#8
def codeRemoteReset : Byte := 0x51#8
def codeSilence : Byte := 0x52#8
def codeRetire : Byte := 0x53#8
def codeStageMap : Byte := 0x54#8
def codeCommitMap : Byte := 0x55#8
def codeAbortMap : Byte := 0x56#8
def codeLampTest : Byte := 0x57#8
def codeConfigure : Byte := 0x58#8
def codeRestart : Byte := 0x59#8

/-- The 29 codes that name a request (R181, R184). -/
def requestCodes : List Byte :=
  [codeAttach, codeDetach, codePing, codeSetAttention, codeCollect,
   codePermit, codeTakeover, codeYield, codeClaimOrphan,
   codePost, codeAmend, codeClear, codeReassert, codeWithdraw,
   codeFind, codeQuery, codeListGroup, codePanelStatus, codeReadMap,
   codeAcknowledge, codeRemoteReset, codeSilence, codeRetire, codeStageMap, codeCommitMap, codeAbortMap,
   codeLampTest, codeConfigure, codeRestart]

/-! ### Field encodings, outward (R185) -/

def linkCode : Option Link → Byte
  | none => 0#8
  | some .a => 1#8
  | some .b => 2#8

def SessionState.code : SessionState → Byte
  | .offline => 0#8
  | .standby => 1#8
  | .primary => 2#8
  | .lost => 3#8

def Class.code : Class → Byte
  | .alarm => 0#8
  | .warning => 1#8
  | .status => 2#8
  | .advisory => 3#8

def Latch.code : Latch → Byte
  | .none => 0#8
  | .ack => 1#8
  | .ackReset => 2#8

def HornField.code : HornField → Byte
  | .quiet => 0#8
  | .sound => 1#8

def OrphanPolicy.code : OrphanPolicy → Byte
  | .drop => 0#8
  | .keep => 1#8
  | .adopt => 2#8

def Annunciation.code : Annunciation → Byte
  | .steady => 0#8
  | .new => 1#8
  | .acked => 2#8
  | .clearedNew => 3#8
  | .awaitReset => 4#8

def Reason.code : Reason → Byte
  | .expired => 1#8
  | .acknowledged => 2#8
  | .reset => 3#8
  | .retiredByPrimary => 4#8

def Level.code : Level → Byte
  | .normal => 0#8
  | .low => 1#8
  | .critical => 2#8

def Commit.code : Commit → Byte
  | .idle => 0#8
  | .pending => 1#8

def HornState.code : HornState → Byte
  | .off => 0#8
  | .alarmTone => 1#8
  | .warningTone => 2#8

def RoleNotice.code : RoleNotice → Byte
  | .gained => 1#8
  | .lost => 2#8
  | .vacant => 3#8

def PermitNotice.code : PermitNotice → Byte
  | .granted => 1#8
  | .withdrawn => 2#8

def PeerNotice.code : PeerNotice → Byte
  | .joined => 1#8
  | .left => 2#8
  | .lost => 3#8
  | .reset => 4#8

def MapNotice.code : MapNotice → Byte
  | .committed => 1#8
  | .abandoned => 2#8

def LampNotice.code : LampNotice → Byte
  | .started => 1#8
  | .ended => 2#8

def AdoptionNotice.code : AdoptionNotice → Byte
  | .adopted => 1#8
  | .conflict => 2#8

/-- A key set: bit 0 ACK, bit 1 SILENCE, bit 2 RESET, bit 3 TEST (R185). DESIGN CHOICE: bits 7–4, which have no meaning, are
sent as 0 (assumption 25). -/
def keySetByte (k : PerKey Bool) : Byte :=
  (if k.ack then 1#8 else 0#8) ||| (if k.silence then 2#8 else 0#8) |||
  (if k.reset then 4#8 else 0#8) ||| (if k.test then 8#8 else 0#8)

/-! ### Field encodings, inward (R185): any other value is BAD_REQUEST -/

def finOf (n : Nat) (b : Byte) : Option (Fin n) :=
  if h : b.toNat < n then some ⟨b.toNat, h⟩ else none

def classOf (b : Byte) : Option Class :=
  if b = 0#8 then some .alarm
  else if b = 1#8 then some .warning
  else if b = 2#8 then some .status
  else if b = 3#8 then some .advisory
  else none

def latchOf (b : Byte) : Option Latch :=
  if b = 0#8 then some .none
  else if b = 1#8 then some .ack
  else if b = 2#8 then some .ackReset
  else none

def hornOf (b : Byte) : Option HornField :=
  if b = 0#8 then some .quiet
  else if b = 1#8 then some .sound
  else none

def policyOf (b : Byte) : Option OrphanPolicy :=
  if b = 0#8 then some .drop
  else if b = 1#8 then some .keep
  else if b = 2#8 then some .adopt
  else none

def flagOf (b : Byte) : Option Bool :=
  if b = 0#8 then some false
  else if b = 1#8 then some true
  else none

/-- A record's glyph: 0x00 is BAD_REQUEST (R7, R185). -/
def glyphOf (b : Byte) : Option Byte :=
  if b = 0#8 then none else some b

/-- A key: 0x0000 is BAD_REQUEST (R4, R185). -/
def keyOf (high low : Byte) : Option Word16 :=
  if word16 high low = 0#16 then none else some (word16 high low)

/-- A lifetime period, 0 for none (R185). -/
def periodOf (high low : Byte) : Nat := (word16 high low).toNat

/-- A handle (R3). -/
structure Handle where
  slot : SlotIx
  gen : Byte
deriving DecidableEq, Repr

/-- A slot byte above 63 is BAD_REQUEST (R3, R185). -/
def handleOf (slot gen : Byte) : Option Handle :=
  (finOf 64 slot).map fun i => { slot := i, gen }

def handleBytes (i : SlotIx) (gen : Byte) : List Byte := [byteOf i.val, gen]

/-! ### Request payloads (R185): none is BAD_REQUEST at step 4 of R181 -/

/-- The payload of a request that carries none. -/
def parseEmpty : List Byte → Option Unit
  | [] => some ()
  | _ => none

/-- The payload of a request that carries one handle. -/
def parseHandle : List Byte → Option Handle
  | [i, g] => handleOf i g
  | _ => none

structure AttachPayload where
  wishPrimary : Bool
  interval : Nat
  failover : Bool
deriving DecidableEq, Repr

/-- ATTACH: role wish (0 STANDBY, 1 PRIMARY), keepalive 1–255, failover (R149). -/
def parseAttach : List Byte → Option AttachPayload
  | [wish, interval, failover] => do
    let wishPrimary ← flagOf wish
    let failover ← flagOf failover
    if interval = 0#8 then none else some { wishPrimary, interval := interval.toNat, failover }
  | _ => none

/-- DETACH: true for WITHDRAW_ALL, false for LEAVE (R153). -/
def parseDetach : List Byte → Option Bool
  | [mode] => (flagOf mode).map fun leave => !leave
  | _ => none

/-- PERMIT: true for grant, false for withdraw (R162). -/
def parsePermit : List Byte → Option Bool
  | [v] => if v = 1#8 then some true else if v = 2#8 then some false else none
  | _ => none

/-- The thirteen notice kinds' bits (R185). -/
def allKinds : Word16 := 0x1FFF#16

/-- SET_ATTENTION: a mask of the thirteen kinds (R172). -/
def parseMask : List Byte → Option Word16
  | [h, l] => if word16 h l &&& ~~~allKinds = 0#16 then some (word16 h l) else none
  | _ => none

structure ClaimPayload where
  handle : Handle
  key : Word16
deriving DecidableEq, Repr

/-- CLAIM_ORPHAN: handle and new key (R158). -/
def parseClaim : List Byte → Option ClaimPayload
  | [i, g, kh, kl] => do
    let handle ← handleOf i g
    let key ← keyOf kh kl
    some { handle, key }
  | _ => none

structure PostPayload where
  key : Word16
  group : Group
  cls : Class
  priority : Fin 16
  latch : Latch
  horn : HornField
  policy : OrphanPolicy
  glyph : Byte
  period : Nat
deriving DecidableEq, Repr

/-- POST (R18): the reserve byte must be 0, and an ALARM must not have latch NONE. -/
def parsePost : List Byte → Option PostPayload
  | [kh, kl, g, c, p, la, ho, po, gl, z, lh, ll] => do
    let key ← keyOf kh kl
    let group ← finOf 24 g
    let cls ← classOf c
    let priority ← finOf 16 p
    let latch ← latchOf la
    let horn ← hornOf ho
    let policy ← policyOf po
    let glyph ← glyphOf gl
    if z = 0#8 ∧ ¬(cls = .alarm ∧ latch = .none) then
      some { key, group, cls, priority, latch, horn, policy, glyph, period := periodOf lh ll }
    else none
  | _ => none

structure AmendPayload where
  handle : Handle
  priority : Option (Fin 16)
  glyph : Option Byte
  horn : Option HornField
  policy : Option OrphanPolicy
  period : Option Nat
deriving DecidableEq, Repr

/-- A field of AMEND: read when its select bit is 1, carried and not interpreted otherwise (R185). -/
def selected {α : Type} (sel : Bool) (field : Option α) : Option (Option α) :=
  if sel then field.map some else some none

/-- AMEND (R20): select bits 0 priority, 1 glyph, 2 horn, 3 orphan policy, 4 lifetime; no other bit, and not none. -/
def parseAmend : List Byte → Option AmendPayload
  | [i, g, sel, p, gl, ho, po, lh, ll] => do
    let handle ← handleOf i g
    let priority ← selected (sel.getLsbD 0) (finOf 16 p)
    let glyph ← selected (sel.getLsbD 1) (glyphOf gl)
    let horn ← selected (sel.getLsbD 2) (hornOf ho)
    let policy ← selected (sel.getLsbD 3) (policyOf po)
    let period ← selected (sel.getLsbD 4) (some (periodOf lh ll))
    if sel = 0#8 ∨ sel &&& 0xE0#8 ≠ 0#8 then none
    else some { handle, priority, glyph, horn, policy, period }
  | _ => none

/-- FIND: a key (R176). -/
def parseFind : List Byte → Option Word16
  | [kh, kl] => keyOf kh kl
  | _ => none

/-- LIST_GROUP: a group and a start index 0–63 (R178). -/
def parseListGroup : List Byte → Option (Group × Nat)
  | [g, start] => do
    let group ← finOf 24 g
    let from0 ← finOf 64 start
    some (group, from0.val)
  | _ => none

/-- READ_MAP: a group and a selector, true for the staged map (R80). -/
def parseReadMap : List Byte → Option (Group × Bool)
  | [g, sel] => do
    let group ← finOf 24 g
    let staged ← flagOf sel
    some (group, staged)
  | _ => none

/-- The selector that READ_MAP's role check reads: true when a payload of the READ_MAP length selects the staged map
(R80). -/
def selectsStaged : List Byte → Bool
  | [_, sel] => sel == 1#8
  | _ => false

/-- A list of handles, two bytes each; none when a byte is left over or a slot is above 63. -/
def parseHandleList : List Byte → Option (List Handle)
  | [] => some []
  | [_] => none
  | i :: g :: rest => do
    let h ← handleOf i g
    let hs ← parseHandleList rest
    some (h :: hs)

/-- What ACKNOWLEDGE and REMOTE_RESET act on (R44, R47). -/
inductive Targets where
  | handles (hs : List Handle)
  | allVisible
deriving DecidableEq, Repr

/-- ACKNOWLEDGE and REMOTE_RESET (R44): mode 1 with a count of 1–16 and that many handles of distinct slots, or mode 2
alone. -/
def parseTargets : List Byte → Option Targets
  | [mode] => if mode = 2#8 then some .allVisible else none
  | mode :: m :: rest => do
    let hs ← parseHandleList rest
    if mode = 1#8 ∧ 1 ≤ m.toNat ∧ m.toNat ≤ 16 ∧ hs.length = m.toNat ∧ (hs.map Handle.slot).Nodup then
      some (.handles hs)
    else none
  | [] => none

structure StagePayload where
  group : Group
  entry : MapEntry
deriving DecidableEq, Repr

/-- A list of drive points, each 0–95. -/
def parsePoints : List Byte → Option (List Point)
  | [] => some []
  | b :: rest => do
    let p ← finOf 96 b
    let ps ← parsePoints rest
    some (p :: ps)

/-- STAGE_MAP (R72): group, idle glyph, point count 0–8, then that many points, none twice. -/
def parseStage : List Byte → Option StagePayload
  | g :: idle :: c :: rest => do
    let group ← finOf 24 g
    let points ← parsePoints rest
    if c.toNat ≤ 8 ∧ points.length = c.toNat ∧ points.Nodup then some { group, entry := { points, idle } } else none
  | _ => none

/-- LAMP_TEST: a duration of 1–10 s (R94). -/
def parseLampTest : List Byte → Option Nat
  | [d] => if 1 ≤ d.toNat ∧ d.toNat ≤ 10 then some d.toNat else none
  | _ => none

structure ConfigurePayload where
  hornEnable : Bool
  modes : PerKey KeyMode
  shedding : Bool
  chordEnable : Bool
deriving DecidableEq, Repr

/-- A key's stored mode from its bit, 1 for REMOTE (R185). -/
def modeOf (b : Bool) : KeyMode := if b then .remote else .isLocal

/-- CONFIGURE (R180): horn enable, key modes, shedding enable, chord enable. -/
def parseConfigure : List Byte → Option ConfigurePayload
  | [h, k, s, c] => do
    let hornEnable ← flagOf h
    let shedding ← flagOf s
    let chordEnable ← flagOf c
    if k &&& 0xF0#8 ≠ 0#8 then none
    else
      let modes : PerKey KeyMode :=
        { ack := modeOf (k.getLsbD 0), silence := modeOf (k.getLsbD 1)
          reset := modeOf (k.getLsbD 2), test := modeOf (k.getLsbD 3) }
      some { hornEnable, modes, shedding, chordEnable }
  | _ => none

/-! ### The rows that share one code (assumption 4): a request whose mode names neither row is refused by either -/

/-- A DETACH that the row DETACH_WITHDRAW_ALL executes: any but one of mode LEAVE. -/
def isDetachWithdrawAll (r : Request) : Bool := r.code == codeDetach && r.payload != [1#8]

/-- A DETACH that the row DETACH_LEAVE executes: any but one of mode WITHDRAW_ALL. -/
def isDetachLeave (r : Request) : Bool := r.code == codeDetach && r.payload != [0#8]

def isPermitGrant (r : Request) : Bool := r.code == codePermit && r.payload != [2#8]

def isPermitWithdraw (r : Request) : Bool := r.code == codePermit && r.payload != [1#8]

/-- A request of a code with two modes that the HANDLES row executes: any whose mode byte is not ALL_VISIBLE. -/
def isHandlesMode (code : Byte) (r : Request) : Bool := r.code == code && r.payload.head? != some 2#8

/-- A request of a code with two modes that the ALL_VISIBLE row executes: any whose mode byte is not HANDLES. -/
def isAllVisibleMode (code : Byte) (r : Request) : Bool := r.code == code && r.payload.head? != some 1#8

end Sys2Proof.Machine
end

