-- ==== Sys2Proof/Machine/Ops.lean ====
section
/-!
DEFINITION. The named operations over the state's parts: the blocks, the time bases, the two links, the notice and
changed sets, the slots and the counts of the Indication Table.
-/

namespace Sys2Proof.Machine

/-! ### Blocks -/

def State.setTime (s : State) (x : TimeBase) : State := { s with time := x }
def State.setPorts (s : State) (x : PerLink Port) : State := { s with ports := x }
def State.setSessions (s : State) (x : SessionUnit) : State := { s with sessions := x }
def State.setTable (s : State) (x : Table) : State := { s with table := x }
def State.setMap (s : State) (x : OutputMap) : State := { s with map := x }
def State.setPanel (s : State) (x : PanelDriver) : State := { s with panel := x }
def State.setKeys (s : State) (x : KeyPort) : State := { s with keys := x }
def State.setHorn (s : State) (x : HornDriver) : State := { s with horn := x }
def State.setSupply (s : State) (x : SupplyMonitor) : State := { s with supply := x }
def State.setPending (s : State) (q : List Instr) : State := { s with pending := q }

/-! ### Time (00_scope.md, Time) -/

/-- A tick, 100 ms, in microseconds (R38). -/
def tickMicros : Nat := 100000
/-- A frame, 1/64 s (R85). -/
def frameMicros : Nat := 15625
/-- A supply sample's interval, 500 ms (R122). -/
def sampleMicros : Nat := 500000
/-- The debounce, 20 ms (R100). -/
def debounceMicros : Nat := 20000
/-- The chord's 4 s (R111). -/
def chordMicros : Nat := 4000000
/-- One second (R91, R94). -/
def secondMicros : Nat := 1000000

/-- The moment an outside command falls at: `dt` after the moment reached (assumption 1). -/
def State.after (s : State) (dt : Nat) : State :=
  s.setTime { s.time with clock := s.time.clock + dt }

/-- An event inside the part falls at its own moment `t` (assumption 1). -/
def State.reach (s : State) (t : Nat) : State :=
  s.setTime { s.time with clock := max s.time.clock t }

/-- The tick boundaries up to and including the start of a count that is set now: the first boundary after this moment is
the start, and a count set at the moment of a boundary takes the next one (R38, R151). -/
def State.startIn (s : State) : Nat :=
  if s.time.clock = tickMicros * (s.time.ticks + 1) then 2 else 1

/-! ### Links -/

def State.port (s : State) (l : Link) : Port := s.ports.get l

def State.setPort (s : State) (l : Link) (p : Port) : State := s.setPorts (s.ports.set l p)

def State.session (s : State) (l : Link) : LinkSession := s.sessions.links.get l

def State.setSession (s : State) (l : Link) (x : LinkSession) : State :=
  s.setSessions { s.sessions with links := s.sessions.links.set l x }

/-- A link is in session while it is STANDBY or PRIMARY (R147). -/
def SessionState.inSession : SessionState → Bool
  | .standby => true
  | .primary => true
  | .offline => false
  | .lost => false

def State.inSession (s : State) (l : Link) : Bool := (s.session l).state.inSession

def State.isPrimary (s : State) (l : Link) : Bool := s.sessions.primary == some l

/-! ### Notices (R168) -/

/-- Places a notice in a link's set, if the link is in session (R168). -/
def State.notify (s : State) (l : Link) (f : NoticeSet → NoticeSet) : State :=
  if s.inSession l then s.setSession l { s.session l with notices := f (s.session l).notices } else s

/-- Places a notice in the set of the panel's primary; none while the primary is NONE (R168). -/
def State.notifyPrimary (s : State) (f : NoticeSet → NoticeSet) : State :=
  match s.sessions.primary with
  | some p => s.notify p f
  | none => s

/-- Places a notice in the set of every link in session. -/
def State.notifyBoth (s : State) (f : NoticeSet → NoticeSet) : State :=
  (s.notify .a f).notify .b f

def NoticeSet.putRole (v : RoleNotice) (n : NoticeSet) : NoticeSet := { n with role := some v }
def NoticeSet.putPermit (v : PermitNotice) (n : NoticeSet) : NoticeSet := { n with permit := some v }
def NoticeSet.putPeer (v : PeerNotice) (n : NoticeSet) : NoticeSet := { n with peer := some v }
def NoticeSet.putMap (v : MapNotice) (n : NoticeSet) : NoticeSet := { n with map := some v }
def NoticeSet.putSupply (v : Level) (n : NoticeSet) : NoticeSet := { n with supply := some v }
def NoticeSet.putOrphans (n : NoticeSet) : NoticeSet := { n with orphans := true }
/-- A key joins the keys the KEY notice already holds (R110, R168). -/
def NoticeSet.putKey (k : KeyId) (n : NoticeSet) : NoticeSet := { n with key := n.key.set k true }
def NoticeSet.putLamp (v : LampNotice) (n : NoticeSet) : NoticeSet := { n with lamp := some v }
def NoticeSet.putPurge (n : NoticeSet) : NoticeSet := { n with purge := true }
def NoticeSet.putAdoption (v : AdoptionNotice) (n : NoticeSet) : NoticeSet := { n with adoption := some v }
def NoticeSet.putRestart (n : NoticeSet) : NoticeSet := { n with restart := true }
def NoticeSet.putTable (n : NoticeSet) : NoticeSet := { n with table := true }

/-! ### Changed sets (R170) -/

/-- A slot joins a changed set, or stays once. -/
def joinSlot (i : SlotIx) (c : List SlotIx) : List SlotIx :=
  if i ∈ c then c else c.orderedInsert (· ≤ ·) i

def State.joinChanged (s : State) (l : Link) (i : SlotIx) : State :=
  s.setSession l { s.session l with changed := joinSlot i (s.session l).changed }

def State.leaveChanged (s : State) (l : Link) (i : SlotIx) : State :=
  s.setSession l { s.session l with changed := (s.session l).changed.filter (· ≠ i) }

/-- A freed slot leaves any changed set that holds it (R15). -/
def State.leaveBothChanged (s : State) (i : SlotIx) : State :=
  (s.leaveChanged .a i).leaveChanged .b i

/-! ### Slots (R1, R2) -/

def Table.slot (t : Table) (i : SlotIx) : Slot := t.slots.get i

def Table.record (t : Table) (i : SlotIx) : Option Record :=
  match (t.slot i).content with
  | .live r => some r
  | _ => none

def State.slot (s : State) (i : SlotIx) : Slot := s.table.slot i

def State.record (s : State) (i : SlotIx) : Option Record := s.table.record i

def State.setSlot (s : State) (i : SlotIx) (x : Slot) : State :=
  s.setTable { s.table with slots := s.table.slots.set i.val x i.isLt }

/-- Changes what a slot holds; the generation stays (R2). -/
def State.setContent (s : State) (i : SlotIx) (c : Content) : State :=
  s.setSlot i { s.slot i with content := c }

def State.setRecord (s : State) (i : SlotIx) (r : Record) : State := s.setContent i (.live r)

def State.setArrival (s : State) (q : List SlotIx) : State := s.setTable { s.table with arrival := q }

/-- The generation a slot takes at its next allocation (R2). -/
def nextGen (g : Byte) : Byte := if g = 255#8 then 1#8 else g + 1#8

def Slot.isFree (x : Slot) : Bool :=
  match x.content with
  | .free => true
  | _ => false

def Slot.isLive (x : Slot) : Bool :=
  match x.content with
  | .live _ => true
  | _ => false

def Slot.isTombstone (x : Slot) : Bool :=
  match x.content with
  | .tombstone _ => true
  | _ => false

def Slot.isOrphan (x : Slot) : Bool :=
  match x.content with
  | .live r => r.owner == none
  | _ => false

/-- The four counts the table keeps (R1). -/
def Table.freeCount (t : Table) : Nat := t.slots.toList.countP Slot.isFree
def Table.liveCount (t : Table) : Nat := t.slots.toList.countP Slot.isLive
def Table.tombstoneCount (t : Table) : Nat := t.slots.toList.countP Slot.isTombstone
def Table.orphanCount (t : Table) : Nat := t.slots.toList.countP Slot.isOrphan

/-- All slots, in ascending order. -/
def allSlots : List SlotIx := List.finRange 64

/-- All groups, in ascending order. -/
def allGroups : List Group := List.finRange 24

/-- The lowest-numbered FREE slot (R11). -/
def Table.lowestFree (t : Table) : Option SlotIx := allSlots.find? fun i => (t.slot i).isFree

/-- A function applied to every member of a vector. -/
def mapVector {α β : Type} {n : Nat} (f : α → β) (v : Vector α n) : Vector β n :=
  ⟨⟨v.toList.map f⟩, by simp⟩

/-- The slot of the caller's LIVE record under a key (R4, R176). -/
def Table.findKey (t : Table) (l : Link) (k : Word16) : Option SlotIx :=
  allSlots.find? fun i =>
    match t.record i with
    | some r => r.owner == some l && r.key == k
    | none => false

/-- The record a handle names (R3). -/
def Table.resolve (t : Table) (h : Handle) : Option Record :=
  if h.gen ≠ 0#8 ∧ (t.slot h.slot).gen = h.gen then t.record h.slot else none

/-! ### The low-table flag (R13) -/

/-- An allocation that brings the free count from 5 to 4 with the flag clear sets it and sends TABLE. -/
def State.examineAllocation (s : State) (freeBefore : Nat) : State :=
  if freeBefore = 5 ∧ s.table.freeCount = 4 ∧ s.table.low = false then
    (s.setTable { s.table with low := true }).notifyBoth .putTable
  else s

/-- A freeing that brings the free count from 4 or below to 5 or above clears the flag. -/
def State.examineFreeing (s : State) (freeBefore : Nat) : State :=
  if freeBefore ≤ 4 ∧ 5 ≤ s.table.freeCount then s.setTable { s.table with low := false } else s

end Sys2Proof.Machine
end

