-- ==== Sys2Proof/Machine/Resolver.lean ====
section
/-!
DEFINITION. The Group Resolver: claim lists, heads, shedding, visibility, surfacing and displays (R50–R66). All of it is
derived from the table, the active map and the Supply Monitor, since R51 decides a claim list by its members' fields and
the Resolver keeps no other state (assumption 8).
-/

namespace Sys2Proof.Machine

/-! ### The precedence order (R51) -/

def classRank : Class → Nat
  | .alarm => 0
  | .warning => 1
  | .status => 2
  | .advisory => 3

def stateRank : Annunciation → Nat
  | .new => 0
  | .acked => 1
  | .steady => 1
  | .clearedNew => 2
  | .awaitReset => 3

/-- The first three comparisons of R51: x comes before y by class, state rank or priority. -/
def outranks (x y : Record) : Bool :=
  if classRank x.cls ≠ classRank y.cls then classRank x.cls < classRank y.cls
  else if stateRank x.state ≠ stateRank y.state then stateRank x.state < stateRank y.state
  else y.priority < x.priority

/-- R51 on two members of a claim list: the fourth comparison is the arrival order. -/
def Table.comesBefore (t : Table) (i j : SlotIx) : Bool :=
  match t.record i, t.record j with
  | some x, some y =>
    outranks x y || (!outranks y x && decide (t.arrival.idxOf i ≤ t.arrival.idxOf j))
  | _, _ => decide (t.arrival.idxOf i ≤ t.arrival.idxOf j)

/-- The LIVE records that name a group (R50), in arrival order. -/
def Table.claimants (t : Table) (g : Group) : List SlotIx :=
  t.arrival.filter fun i =>
    match t.record i with
    | some r => r.group == g
    | none => false

/-- The claim list of a group, in precedence order (R50, R51). -/
def Table.claimList (t : Table) (g : Group) : List SlotIx :=
  (t.claimants g).insertionSort fun i j => t.comesBefore i j = true

/-- The head of a group (R53). -/
def Table.head (t : Table) (g : Group) : Option SlotIx := (t.claimList g).head?

/-! ### What a group can show (R54, R55) -/

def State.entry (s : State) (g : Group) : MapEntry := s.map.active.get g

/-- The positions below a point count, as a set (R54). -/
def drivenMask (count : Nat) : Byte := BitVec.ofNat 8 (2 ^ count - 1)

/-- The driven positions of a set of positions of a group (R54). -/
def MapEntry.driven (e : MapEntry) (positions : Byte) : Byte := positions &&& drivenMask e.points.length

/-- Whether a class of head keeps its group lit at a supply level while shedding is enabled; the class is none for an
empty list (R55). -/
def shedAt (level : Level) (head : Option Class) : Bool :=
  match level, head with
  | .normal, _ => false
  | .low, some .alarm => false
  | .low, some .warning => false
  | .low, _ => true
  | .critical, some .alarm => false
  | .critical, _ => true

def State.headClass (s : State) (g : Group) : Option Class :=
  ((s.table.head g).bind s.record).map Record.cls

/-- A group is shed (R55). -/
def State.shed (s : State) (g : Group) : Bool :=
  s.supply.shedding && shedAt s.supply.level (s.headClass g)

/-! ### Visibility (R56) -/

/-- The visible record of a group, by its slot: the head, when the group has points, the head's driven glyph is not empty
and the group is not shed. -/
def State.visibleSlot (s : State) (g : Group) : Option SlotIx :=
  match s.table.head g with
  | none => none
  | some i =>
    match s.record i with
    | none => none
    | some r =>
      if 1 ≤ (s.entry g).points.length ∧ (s.entry g).driven r.glyph ≠ 0#8 ∧ s.shed g = false then some i else none

def State.isVisible (s : State) (i : SlotIx) : Bool :=
  match s.record i with
  | some r => s.visibleSlot r.group == some i
  | none => false

/-- NEW and CLEARED_NEW (R27). -/
def Annunciation.unacknowledged : Annunciation → Bool
  | .new => true
  | .clearedNew => true
  | .steady => false
  | .acked => false
  | .awaitReset => false

/-- The visible records whose annunciation state is one of `want`, group by group (R46, R47, R105–R107). -/
def State.visibleIn (s : State) (want : Annunciation → Bool) : List SlotIx :=
  allGroups.filterMap fun g =>
    match s.visibleSlot g with
    | none => none
    | some i =>
      match s.record i with
      | some r => if want r.state then some i else none
      | none => none

def State.visibleUnacknowledged (s : State) : List SlotIx := s.visibleIn Annunciation.unacknowledged

def State.visibleAwaitingReset (s : State) : List SlotIx := s.visibleIn (· == .awaitReset)

/-! ### Surfacing (R58) -/

/-- The re-decision of one group after an event: `before` is the state before the event. A record that is visible now,
was not before, and is unacknowledged has its silenced flag set to no. -/
def State.surface (before : State) (s : State) (g : Group) : State :=
  match s.visibleSlot g with
  | none => s
  | some i =>
    if before.visibleSlot g = some i then s
    else match s.record i with
      | none => s
      | some r => if r.state.unacknowledged then s.setRecord i { r with silenced := false } else s

/-- The re-decision of all 24 groups (R57). -/
def State.surfaceAll (before : State) (s : State) : State :=
  allGroups.foldl (fun acc g => before.surface acc g) s

/-! ### Displays (R61, R62) -/

inductive Pattern where
  | steady
  | fast
  | slow
  | wink
deriving DecidableEq, Repr

/-- The pattern of a record display (R62). -/
def Annunciation.pattern : Annunciation → Pattern
  | .new => .fast
  | .clearedNew => .slow
  | .awaitReset => .wink
  | .acked => .steady
  | .steady => .steady

/-- The frames in which a pattern is on (R86). -/
def Pattern.onIn (p : Pattern) (f : Frame) : Bool :=
  match p with
  | .steady => true
  | .fast => f.val / 8 % 2 == 0
  | .slow => decide (f.val < 32)
  | .wink => decide (f.val < 8)

inductive Display where
  | dark
  | lit (positions : Byte) (pattern : Pattern)
deriving DecidableEq, Repr

/-- A group's display: record display, idle display or dark (R61). -/
def State.display (s : State) (g : Group) : Display :=
  match s.visibleSlot g with
  | some i =>
    match s.record i with
    | some r => .lit ((s.entry g).driven r.glyph) r.state.pattern
    | none => .dark
  | none =>
    if s.table.claimList g = [] ∧ s.shed g = false ∧ (s.entry g).driven (s.entry g).idle ≠ 0#8 then
      .lit ((s.entry g).driven (s.entry g).idle) .steady
    else .dark

end Sys2Proof.Machine
end

