-- ==== Sys2Proof/Machine/Flags.lean ====
section
/-!
DEFINITION. What is decided from the state at each moment: notice-kind masks and ATTN (R171, R185), the link status byte
(R132, R183), the points of a frame and the lines they are driven on (R87, R89), horn demand and the horn outputs
(R115–R117).
-/

namespace Sys2Proof.Machine

/-! ### Notice kinds and ATTN (R171) -/

/-- The KEY kind is held while it has a key (R110). -/
def KeySetHeld (k : PerKey Bool) : Bool := k.ack || k.silence || k.reset || k.test

/-- One bit of the notice-kind mask (R185). -/
def kindBit (n : Nat) (heldNow : Bool) : Word16 := if heldNow then 1#16 <<< n else 0#16

/-- The stored kinds of a notice set as a mask; `changes` is whether CHANGES counts as held (R168, R185). -/
def NoticeSet.kinds (n : NoticeSet) (changes : Bool) : Word16 :=
  kindBit 0 changes ||| kindBit 1 n.role.isSome ||| kindBit 2 n.permit.isSome ||| kindBit 3 n.peer.isSome |||
  kindBit 4 n.map.isSome ||| kindBit 5 n.supply.isSome ||| kindBit 6 n.orphans ||| kindBit 7 (KeySetHeld n.key) |||
  kindBit 8 n.lamp.isSome ||| kindBit 9 n.purge ||| kindBit 10 n.adoption.isSome ||| kindBit 11 n.restart |||
  kindBit 12 n.table

/-- The kinds held for a link, CHANGES among them while its changed set is not empty (R168). -/
def LinkSession.heldKinds (x : LinkSession) : Word16 := x.notices.kinds (!x.changed.isEmpty)

/-- A link's ATTN line is asserted (R171). -/
def State.attn (s : State) (l : Link) : Bool :=
  s.inSession l && ((s.session l).mask &&& (s.session l).heldKinds) != 0#16

/-! ### The link status byte (R132, R183) -/

def ReqSlot.isAnswered : ReqSlot → Bool
  | .answered _ => true
  | _ => false

def ReqSlot.isExecuting : ReqSlot → Bool
  | .executing _ => true
  | _ => false

def statusBit (n : Nat) (b : Bool) : Byte := if b then 1#8 <<< n else 0#8

def State.statusByte (s : State) (l : Link) : Byte :=
  statusBit 7 (s.port l).slot.isAnswered ||| statusBit 6 (s.port l).slot.isExecuting ||| statusBit 5 (s.attn l) |||
  statusBit 4 (s.port l).overrun ||| statusBit 3 (s.port l).frameError ||| ((s.session l).state.code <<< 1) |||
  statusBit 0 (s.sessions.permit == some l)

/-! ### The points (R87) and the lines (R67, R89) -/

/-- The points one group lights in the present frame. -/
def State.groupPoints (s : State) (g : Group) : List Point :=
  match s.display g with
  | .dark => []
  | .lit positions pattern =>
    if pattern.onIn s.panel.frame then
      ((s.entry g).points.zipIdx.filter fun pk => positions.getLsbD pk.2).map Prod.fst
    else []

/-- The points of the present frame: on in a lamp test, or lit for the group that lists them (R87). -/
def State.compose (s : State) : Vector Bool 96 :=
  let lit := allGroups.flatMap s.groupPoints
  ⟨⟨(List.finRange 96).map fun p => s.panel.lamp.running || lit.contains p⟩, by simp⟩

/-- A frame is composed from the displays and the active map as they stand (R88). -/
def State.composeFrame (s : State) : State :=
  s.setPanel { s.panel with points := s.compose }

/-- Which common sinks in a quarter of a frame: COM0 to COM3 in turn, none during device reset (R89). -/
def State.commonSinks (s : State) (quarter common : Fin 4) : Bool := !s.held && quarter == common

/-- The point at the crossing of a common and a segment (R67). -/
def pointAt (common : Fin 4) (segment : Fin 24) : Point := ⟨24 * common.val + segment.val, by omega⟩

/-- Whether a segment sources in a quarter of the present frame; none does during device reset (R89). -/
def State.segmentSources (s : State) (quarter : Fin 4) (segment : Fin 24) : Bool :=
  !s.held && s.panel.points.get (pointAt quarter segment)

/-! ### The horn (R115–R117) -/

/-- A visible record demands the horn by its class, horn field, state and silenced flag (R115). -/
def Record.demandsHorn (r : Record) : Bool :=
  (r.cls == .alarm || r.cls == .warning) && r.horn == .sound && r.state.unacknowledged && !r.silenced

/-- The demanding set (R115). -/
def State.demanding (s : State) : List Record :=
  allGroups.filterMap fun g =>
    ((s.visibleSlot g).bind s.record).filter Record.demandsHorn

/-- The horn state that R115 decides. -/
def State.decideHorn (s : State) : HornState :=
  if s.horn.enable then
    if s.demanding.any (·.cls == .alarm) then .alarmTone
    else if s.demanding.isEmpty then .off
    else .warningTone
  else .off

/-- The length of a tone's on-phase and of its off-phase (R117). -/
def HornState.phaseMicros : HornState → Nat
  | .off => 0
  | .alarmTone => 250000
  | .warningTone => 1000000

/-- Entry into a horn state at a moment: a tone begins an on-phase at once (R117). -/
def HornDriver.enter (h : HornDriver) (st : HornState) (clock : Nat) : HornDriver :=
  match st with
  | .off => { h with state := .off, sounding := false, phaseEnd := 0 }
  | _ => { h with state := st, sounding := true, phaseEnd := clock + st.phaseMicros }

/-- The horn state re-decided (R116): a state left as it was keeps its tone running (R117). -/
def State.redecideHorn (s : State) : State :=
  if s.decideHorn = s.horn.state then s
  else s.setHorn (s.horn.enter s.decideHorn s.time.clock)

/-- The horn pair: both low, or in antiphase at the 3.2 kHz carrier (R117). -/
inductive HornOutput where
  | low
  | antiphase
deriving DecidableEq, Repr

def State.hornOutput (s : State) : HornOutput :=
  if s.held then .low
  else match s.horn.state with
    | .off => .low
    | _ => if s.horn.sounding then .antiphase else .low

end Sys2Proof.Machine
end

