-- ==== Sys2Proof/Machine/Records.lean ====
section
/-!
DEFINITION. Events on a record: retirement by freeing or with a tombstone (R14–R17), the annunciation state table (R29),
lifetimes (R38, R39), silencing (R41, R106) and the orphan purge (R112).
-/

namespace Sys2Proof.Machine

/-- Who caused an event on a record: a link's request, the operator's key, or the part (R14, R35). -/
inductive Cause where
  | link (l : Link)
  | operator
  | part
deriving DecidableEq, Repr

def Cause.isOwnerOf (c : Cause) (r : Record) : Bool :=
  match c with
  | .link l => r.owner == some l
  | _ => false

/-! ### Retirement (R14–R16) -/

/-- The slots in arrival order without one of them (R9). -/
def State.arrivalWithout (s : State) (i : SlotIx) : List SlotIx := s.table.arrival.filter (· ≠ i)

/-- A retirement that frees the slot at once (R15); nothing where the slot is not LIVE. -/
def State.retireFree (s : State) (i : SlotIx) : State :=
  match s.record i with
  | none => s
  | some r =>
    let freed := ((s.setContent i .free).setArrival (s.arrivalWithout i)).leaveBothChanged i
    s.surface (freed.examineFreeing s.table.freeCount) r.group

/-- A retirement that leaves a tombstone for an owner, in the owner's changed set (R10, R15, R16). -/
def State.retireTombstone (s : State) (i : SlotIx) (r : Record) (owner : Link) (reason : Reason) : State :=
  let t : Tombstone := { owner, key := r.key, reason, stateAt := r.state }
  let kept := ((s.setContent i (.tombstone t)).setArrival (s.arrivalWithout i)).joinChanged owner i
  s.surface kept r.group

/-- A retirement by its cause: freed for an orphan or by the owner, else a tombstone with the reason (R14). -/
def State.retire (s : State) (cause : Cause) (reason : Reason) (i : SlotIx) : State :=
  match s.record i with
  | none => s
  | some r =>
    match r.owner with
    | none => s.retireFree i
    | some o => if cause = .link o then s.retireFree i else s.retireTombstone i r o reason

/-! ### The annunciation state table (R28, R29) -/

inductive RecordEvent where
  | clear
  | expire
  | ack
  | reset
  | reassert
deriving DecidableEq, Repr

inductive Effect where
  | retired
  | moved (st : Annunciation)
  | noEffect
  | wrongState
deriving DecidableEq, Repr

/-- R29's columns CLEAR and EXPIRE. A latch of NONE outside STEADY, which no record has (R27), is taken as ACK
(assumption 19). -/
def clearing (latch : Latch) : Annunciation → Effect
  | .steady => .retired
  | .new => .moved .clearedNew
  | .acked => if latch = .ackReset then .moved .awaitReset else .retired
  | .clearedNew => .noEffect
  | .awaitReset => .noEffect

/-- R29's column ACK. -/
def acknowledging (latch : Latch) : Annunciation → Effect
  | .steady => .noEffect
  | .new => .moved .acked
  | .acked => .noEffect
  | .clearedNew => if latch = .ackReset then .moved .awaitReset else .retired
  | .awaitReset => .noEffect

/-- R29's column RESET. -/
def resetting : Annunciation → Effect
  | .steady => .noEffect
  | .new => .noEffect
  | .acked => .noEffect
  | .clearedNew => .noEffect
  | .awaitReset => .retired

/-- R29's column REASSERT. -/
def reasserting : Annunciation → Effect
  | .steady => .wrongState
  | .new => .wrongState
  | .acked => .moved .new
  | .clearedNew => .moved .new
  | .awaitReset => .moved .new

/-- The state table of R29. -/
def annunciate (ev : RecordEvent) (latch : Latch) (st : Annunciation) : Effect :=
  match ev with
  | .clear => clearing latch st
  | .expire => clearing latch st
  | .ack => acknowledging latch st
  | .reset => resetting st
  | .reassert => reasserting st

/-- The reason in brackets in R29; a CLEAR's retirement frees the slot and writes none (R30). -/
def RecordEvent.reason : RecordEvent → Reason
  | .clear => .expired
  | .expire => .expired
  | .ack => .acknowledged
  | .reset => .reset
  | .reassert => .reset

/-! ### Lifetimes (R8, R38, R39) -/

/-- A lifetime of a period, or none for the period 0 (R8, R19, R22); `startIn` is `State.startIn` at the moment. -/
def lifetimeOf (period startIn : Nat) : Option Lifetime :=
  if period = 0 then none else some { period, remaining := period, startIn, due := false }

/-- A restarted lifetime (R8). -/
def Lifetime.restart (x : Lifetime) (startIn : Nat) : Lifetime :=
  { x with remaining := x.period, startIn, due := false }

/-- A lifetime stopped by a CLEAR keeps its count, and an EXPIRE that was due does not occur (R39, R40). -/
def Lifetime.stop (x : Lifetime) : Lifetime := { x with due := false }

/-- A lifetime stopped by its own EXPIRE has the count 0 (R31, R39). -/
def Lifetime.runOut (x : Lifetime) : Lifetime := { x with remaining := 0, due := false }

/-- What an event that moves a record makes of its lifetime (R39). -/
def Lifetime.moved (x : Lifetime) (ev : RecordEvent) (startIn : Nat) : Lifetime :=
  match ev with
  | .clear => x.stop
  | .expire => x.runOut
  | .ack => x
  | .reset => x
  | .reassert => x.restart startIn

/-- The annunciation states in which a present lifetime runs (R39). -/
def Annunciation.lifetimeRuns : Annunciation → Bool
  | .steady => true
  | .new => true
  | .acked => true
  | .clearedNew => false
  | .awaitReset => false

/-- A running lifetime at a tick boundary: its start, or one off the count (R38). The last one goes with the EXPIRE that the
boundary makes due, so that a running count is never 0 (R8; assumption 15). -/
def Lifetime.tick (x : Lifetime) : Lifetime :=
  if x.startIn ≠ 0 then { x with startIn := x.startIn - 1 }
  else if 1 < x.remaining then { x with remaining := x.remaining - 1 }
  else { x with due := true }

def Record.tick (r : Record) : Record :=
  if r.state.lifetimeRuns then { r with lifetime := r.lifetime.map Lifetime.tick } else r

def Slot.tick (x : Slot) : Slot :=
  match x.content with
  | .live r => { x with content := .live r.tick }
  | _ => x

/-- A record's expiry has come: its lifetime runs, and its EXPIRE is due (R38). -/
def Record.expiryDue (r : Record) : Bool := r.state.lifetimeRuns && r.lifetime.any Lifetime.due

/-! ### Delivering an event (R28, R37) -/

/-- What a move to another annunciation state writes (R29, R30–R34): REASSERT also clears the silenced flag. -/
def Record.moveTo (r : Record) (ev : RecordEvent) (st : Annunciation) (startIn : Nat) : Record :=
  { r with
    state := st
    silenced := if ev = .reassert then false else r.silenced
    lifetime := r.lifetime.map (·.moved ev startIn) }

/-- A change by anyone but the owner places the slot in the owner's changed set (R35). -/
def State.noteChange (s : State) (cause : Cause) (i : SlotIx) (r : Record) : State :=
  match r.owner with
  | none => s
  | some o => if cause = .link o then s else s.joinChanged o i

/-- REASSERT moves its record to the newest end of the arrival order (R9). -/
def State.noteArrival (s : State) (ev : RecordEvent) (i : SlotIx) : State :=
  if ev = .reassert then s.setArrival (s.arrivalWithout i ++ [i]) else s

/-- One event delivered to the record in one slot, and the record handed to the Group Resolver (R29, R37). -/
def State.deliver (s : State) (ev : RecordEvent) (cause : Cause) (i : SlotIx) : State :=
  match s.record i with
  | none => s
  | some r =>
    match annunciate ev r.latch r.state with
    | .retired => s.retire cause ev.reason i
    | .moved st =>
      s.surface (((s.setRecord i (r.moveTo ev st s.startIn)).noteArrival ev i).noteChange cause i r) r.group
    | .noEffect => s
    | .wrongState => s

/-- One event delivered to each of several records, in order (R28). -/
def State.deliverAll (s : State) (ev : RecordEvent) (cause : Cause) (slots : List SlotIx) : State :=
  slots.foldl (fun acc i => acc.deliver ev cause i) s

/-- Whether an event moves or retires the record in a slot (R45, R47). -/
def State.answersTo (s : State) (ev : RecordEvent) (i : SlotIx) : Bool :=
  match s.record i with
  | none => false
  | some r =>
    match annunciate ev r.latch r.state with
    | .retired => true
    | .moved _ => true
    | .noEffect => false
    | .wrongState => false

/-! ### Silencing (R41, R106) -/

def State.silenceSlot (s : State) (i : SlotIx) : State :=
  match s.record i with
  | none => s
  | some r => s.setRecord i { r with silenced := true }

/-- The silenced flag of every visible unacknowledged record set to yes (R106, R114). -/
def State.silenceVisible (s : State) : State :=
  s.visibleUnacknowledged.foldl State.silenceSlot s

def State.isUnsilenced (s : State) (i : SlotIx) : Bool :=
  match s.record i with
  | some r => !r.silenced
  | none => false

/-! ### The orphan purge (R112) -/

def State.orphanSlots (s : State) : List SlotIx := allSlots.filter fun i => (s.slot i).isOrphan

/-- Every orphan retired and its slot freed (R112). -/
def State.purgeOrphans (s : State) : State :=
  s.orphanSlots.foldl State.retireFree s

/-! ### Expiry (R31, R38) -/

/-- The record's own lifetime delivers EXPIRE, where it is due. -/
def State.expireSlot (s : State) (i : SlotIx) : State :=
  match s.record i with
  | none => s
  | some r => if r.expiryDue then (s.deliver .expire .part i).redecideHorn else s

end Sys2Proof.Machine
end

