-- ==== Sys2Proof/Machine/Roles.lean ====
section
/-!
DEFINITION. The Session Unit's shared operations: a request's response placed in its slot (R138), changes of the primary
(R81, R159), the swap of a takeover (R163, R164), and departures (R154–R157, R160).
-/

namespace Sys2Proof.Machine

/-! ### Answering a request (R138) -/

/-- The response placed in the slot and retained with the request's code. -/
def State.answer (s : State) (l : Link) (r : Request) (result : Result) (payload : List Byte) : State :=
  let resp : Response := { seq := r.seq, result, payload }
  s.setPort l { s.port l with slot := .answered resp, retained := some { code := r.code, response := resp } }

/-- The request executing in a link's slot. -/
def State.executing (s : State) (l : Link) : Option Request :=
  match (s.port l).slot with
  | .executing r => some r
  | _ => none

/-- Answers the request that executes in a link's slot, if one does. -/
def State.answerExecuting (s : State) (l : Link) (result : Result) : State :=
  match s.executing l with
  | some r => s.answer l r result []
  | none => s

/-! ### Changes of the primary (R81, R159) -/

/-- The primary changes: the staged map is reset to a copy of the active map and the permit is cleared. -/
def State.changePrimary (s : State) (p : Option Link) : State :=
  (s.setSessions { s.sessions with primary := p, permit := none }).setMap { s.map with staged := s.map.active }

def State.setSessionState (s : State) (l : Link) (st : SessionState) : State :=
  s.setSession l { s.session l with state := st }

/-- The swap of R163: the caller becomes PRIMARY, the other link STANDBY with ROLE lost. -/
def State.swapRoles (s : State) (l : Link) : State :=
  (((s.setSessionState l .primary).setSessionState l.other .standby).changePrimary (some l)).notify l.other
    (.putRole .lost)

/-- A TAKEOVER whose wait a completed or aborted commit has ended: the swap, answered OK (R164). -/
def State.completeTakeover (s : State) : State :=
  match s.sessions.takeoverDue with
  | none => s
  | some l =>
    ((s.setSessions { s.sessions with takeoverDue := none }).swapRoles l).answerExecuting l .ok

/-- The commit has ended by completion or ABORT_MAP: a waiting TAKEOVER waits no longer and is to be completed (R76,
R79, R164). -/
def State.commitEnded (s : State) : State :=
  match s.sessions.waiting with
  | none => s
  | some l => s.setSessions { s.sessions with waiting := none, takeoverDue := some l }

/-! ### Orphan policies (R155, R156) -/

/-- How a departure has dealt with the link's records (R153, R156). -/
structure Tally where
  freed : Nat
  kept : Nat
  adopted : Nat
  adoptSeen : Bool
  collision : Bool
deriving DecidableEq, Repr

def Tally.none : Tally := { freed := 0, kept := 0, adopted := 0, adoptSeen := false, collision := false }

def State.setOwner (s : State) (i : SlotIx) (r : Record) (o : Option Link) : State :=
  s.setRecord i { r with owner := o }

/-- A record with policy ADOPT: adopted by the other link if it is in session and holds no LIVE record with the key,
else an orphan (R156). -/
def State.adopt (s : State) (t : Tally) (i : SlotIx) (r : Record) (heir : Link) : State × Tally :=
  if s.inSession heir then
    if (s.table.findKey heir r.key).isSome then
      (s.setOwner i r none, { t with kept := t.kept + 1, adoptSeen := true, collision := true })
    else
      ((s.setOwner i r (some heir)).joinChanged heir i, { t with adopted := t.adopted + 1, adoptSeen := true })
  else (s.setOwner i r none, { t with kept := t.kept + 1 })

/-- The outcome of a departure for the record in one slot: `all` for DETACH in mode WITHDRAW_ALL (R153, R155). -/
def departSlot (l : Link) (all : Bool) (acc : State × Tally) (i : SlotIx) : State × Tally :=
  match acc.1.record i with
  | none => acc
  | some r =>
    if r.owner = some l then
      if all then (acc.1.retireFree i, { acc.2 with freed := acc.2.freed + 1 })
      else match r.policy with
        | .drop => (acc.1.retireFree i, { acc.2 with freed := acc.2.freed + 1 })
        | .keep => (acc.1.setOwner i r none, { acc.2 with kept := acc.2.kept + 1 })
        | .adopt => acc.1.adopt acc.2 i r l.other
    else acc

/-- The outcomes of a departure for all records of the link, slot by slot (R154 stage 2). -/
def State.departRecords (s : State) (l : Link) (all : Bool) : State × Tally :=
  allSlots.foldl (departSlot l all) (s, .none)

/-! ### Departure (R154) -/

/-- A tombstone of the link is freed, any other slot left as it is (R17). -/
def Slot.dropTombstoneOf (l : Link) (x : Slot) : Slot :=
  match x.content with
  | .tombstone t => if t.owner = l then { x with content := .free } else x
  | _ => x

/-- Every tombstone of the link freed (R154 stage 3). -/
def State.freeTombstones (s : State) (l : Link) : State :=
  (s.setTable { s.table with slots := mapVector (Slot.dropTombstoneOf l) s.table.slots }).examineFreeing
    s.table.freeCount

/-- The link's request cancelled: the slot is EMPTY, the retained response kept (R140; assumption 9), and the link waits
for no commit (R154 stage 1). -/
def State.cancelRequest (s : State) (l : Link) : State :=
  (s.setPort l { s.port l with slot := .empty }).setSessions
    { s.sessions with waiting := if s.sessions.waiting = some l then none else s.sessions.waiting }

/-- The link's sets emptied, its mask empty, a permit it holds cleared, its keepalive stopped (R154 stage 4). -/
def State.closeSession (s : State) (l : Link) (into : SessionState) : State :=
  (s.setSession l (.out into)).setSessions
    { (s.setSession l (.out into)).sessions with
      permit := if s.sessions.permit = some l then none else s.sessions.permit }

/-- The other link is promoted at the primary's departure or YIELD: PRIMARY with ROLE gained (R160, R161). -/
def State.promote (s : State) (l : Link) : State :=
  ((s.setSessionState l .primary).changePrimary (some l)).notify l (.putRole .gained)

/-- The primary's departure: a PENDING commit is abandoned, and the role passes or falls vacant (R82, R160). `p` has
departed. -/
def State.primaryDeparts (s : State) (p : Link) : State :=
  let heir := p.other
  let abandoned := s.map.commit = .pending
  let idle := s.setMap { s.map with commit := .idle }
  if (s.session heir).state = .standby ∧ ((s.session heir).failover = true ∨ s.sessions.waiting = some heir) then
    let promoted := idle.promote heir
    let told := if abandoned then promoted.notify heir (.putMap .abandoned) else promoted
    if s.sessions.waiting = some heir then
      (told.setSessions { told.sessions with waiting := none }).answerExecuting heir .ok
    else told
  else (idle.changePrimary none).notify heir (.putRole .vacant)

/-- The ADOPTION notice of a departure (R156). -/
def State.tellAdoption (s : State) (heir : Link) (t : Tally) : State :=
  if t.adoptSeen then s.notify heir (.putAdoption (if t.collision then .conflict else .adopted)) else s

/-- The ORPHANS notice of a departure that raised the orphan count from 0 (R157). -/
def State.tellOrphans (s : State) (orphansBefore : Nat) : State :=
  if orphansBefore = 0 ∧ s.table.orphanCount ≠ 0 then s.notifyPrimary .putOrphans else s

/-- A departure whole, in the order of R154's stages. `all` is DETACH in mode WITHDRAW_ALL; `peer` is the notice the
other link is sent (R166). -/
def State.depart (s : State) (l : Link) (all : Bool) (into : SessionState) (peer : PeerNotice) : State × Tally :=
  let cancelled := s.cancelRequest l
  let (dealt, tally) := cancelled.departRecords l all
  let closed := (dealt.freeTombstones l).closeSession l into
  let passed := if s.sessions.primary = some l then closed.primaryDeparts l else closed
  let told := (((passed.notify l.other (.putPeer peer)).tellAdoption l.other tally).tellOrphans s.table.orphanCount)
  (told.redecideHorn, tally)

/-- A keepalive at a tick boundary: its start, or one off the count (R151). -/
def Keepalive.tick (k : Keepalive) : Keepalive :=
  if k.startIn ≠ 0 then { k with startIn := k.startIn - 1 } else { k with count := k.count - 1 }

/-- A link's keepalive has run out: it has started and its count is 0 (R151). -/
def Keepalive.expired (k : Keepalive) : Bool := k.startIn == 0 && k.count == 0

def State.keepaliveDue (s : State) (l : Link) : Bool :=
  s.inSession l && (((s.session l).keepalive.map Keepalive.expired).getD false)

/-- The keepalive's expiry, where it is due: a departure with LEAVE into LOST (R151). -/
def State.expireKeepalive (s : State) (l : Link) : State :=
  if s.keepaliveDue l then (s.depart l false .lost .lost).1 else s

/-- A taken SEND restarts the keepalive of a link in session (R143). -/
def State.restartKeepalive (s : State) (l : Link) : State :=
  if s.inSession l then
    s.setSession l
      { s.session l with
        keepalive := (s.session l).keepalive.map fun k => { k with count := k.interval, startIn := s.startIn } }
  else s

end Sys2Proof.Machine
end

