-- ==== Sys2Proof/Machine/Transport.lean ====
section
/-!
DEFINITION. How a command is taken: while the part is out of reset, after a takeover that has come due (R164), at its
moment; how a request is taken from its slot, checked in the order of R181 and answered (R138); and the link transactions'
shared parts (R131–R137, R141, R143).
-/

namespace Sys2Proof.Machine

abbrev Outcome := Host.Outcome State Fault Refusal

/-! ### Taking a command -/

/-- An event inside the part: none is taken while the part is held in device reset (R101, R130, R146). A takeover whose
commit has ended is completed before anything else is taken (R164; assumption 6). -/
def takeInside (s : State) (f : State → State) : Outcome :=
  if s.held then .next s else .next (f s.completeTakeover)

/-- An outside command, `dt` after the moment reached (assumption 1). -/
def takeOutside (dt : Nat) (s : State) (f : State → State) : Outcome :=
  takeInside s fun x => f (x.after dt)

/-! ### Executing a request -/

/-- What a request's execution leaves: the state, and the answer, none while a TAKEOVER waits (R139). -/
structure Reply where
  state : State
  answer : Option (Result × List Byte)

def Reply.refused (s : State) (r : Result) : Reply := { state := s, answer := some (r, []) }

def Reply.ok (s : State) (payload : List Byte) : Reply := { state := s, answer := some (.ok, payload) }

def Reply.waits (s : State) : Reply := { state := s, answer := none }

/-- The response is placed after all the request's effects (R138). -/
def Reply.finish (y : Reply) (l : Link) (r : Request) : State :=
  match y.answer with
  | some a => y.state.answer l r a.1 a.2
  | none => y.state

/-- The request in a link's slot executed, if it is one of this row's and does not wait already (R138, R139); a command
whose request is not there changes nothing (assumption 2). -/
def State.execute (s : State) (l : Link) (row : Request → Bool) (body : List Byte → State → Reply) : State :=
  match s.executing l with
  | none => s
  | some r => if row r = true ∧ s.sessions.waiting ≠ some l then (body r.payload s).finish l r else s

/-- A request row: the execution of a waiting request as one event at its owning block (R138). -/
def takeRequest (l : Link) (s : State) (row : Request → Bool) (body : List Byte → State → Reply) : Outcome :=
  takeInside s fun x => x.execute l row body

/-- The requests of one code. -/
def hasCode (c : Byte) (r : Request) : Bool := r.code == c

/-! ### The checks of R181 -/

/-- Step 2. -/
def needSession (s : State) (l : Link) (k : Reply) : Reply :=
  if s.inSession l then k else .refused s .noSession

/-- Step 3, for the requests of the primary alone. -/
def needPrimary (s : State) (l : Link) (k : Reply) : Reply :=
  if s.isPrimary l then k else .refused s .denied

/-- Step 4. -/
def needPayload {α : Type} (s : State) (p : Option α) (k : α → Reply) : Reply :=
  match p with
  | some x => k x
  | none => .refused s .badRequest

/-- Step 5. -/
def needRecord (s : State) (h : Handle) (k : Record → Reply) : Reply :=
  match s.table.resolve h with
  | some r => k r
  | none => .refused s .staleHandle

/-- Step 6. -/
def needOwner (s : State) (r : Record) (o : Option Link) (k : Reply) : Reply :=
  if r.owner = o then k else .refused s .notOwner

/-- Step 7. -/
def needIdleCommit (s : State) (k : Reply) : Reply :=
  if s.map.commit = .idle then k else .refused s .busy

/-! ### Link transactions (R131–R137) -/

/-- The first byte of a transaction: the status byte is shifted out, the flags it shows are cleared (R132, R133), and a
filler byte follows for every further byte shifted in (R131). -/
def State.openTransaction (s : State) (l : Link) (bytes : List Byte) : State :=
  s.setPort l
    { s.port l with
      overrun := false
      frameError := false
      dataOut := s.statusByte l :: bytes.map fun _ => 0x00#8 }

def State.setSlotOf (s : State) (l : Link) (x : ReqSlot) : State := s.setPort l { s.port l with slot := x }

def State.flagFrameError (s : State) (l : Link) : State := s.setPort l { s.port l with frameError := true }

def State.flagOverrun (s : State) (l : Link) : State := s.setPort l { s.port l with overrun := true }

/-- The retained response that a taken request repeats (R137). -/
def Port.replayFor (p : Port) (r : Request) : Option Response :=
  match p.retained with
  | none => none
  | some k => if k.response.seq = r.seq ∧ k.code = r.code then some k.response else none

/-- A request taken into the slot: the keepalive restarts (R143), then the request is replayed or executes (R136). -/
def State.takeIntoSlot (s : State) (l : Link) (r : Request) : State :=
  match (s.port l).replayFor r with
  | some resp => (s.restartKeepalive l).setSlotOf l (.answered resp)
  | none => (s.restartKeepalive l).setSlotOf l (.executing r)

/-- A SEND at the rise of select (R135, R136). -/
def State.sendFrame (s : State) (l : Link) (bytes : List Byte) : State :=
  match checkFrame bytes with
  | none => s.flagFrameError l
  | some r =>
    match (s.port l).slot with
    | .executing _ => s.flagOverrun l
    | .empty => s.takeIntoSlot l r
    | .answered _ => s.takeIntoSlot l r

/-- The response a FETCH shifts out (R141). -/
def Port.fetched (p : Port) : Response :=
  match p.slot with
  | .answered r => r
  | .executing r => { seq := r.seq, result := .pending, payload := [] }
  | .empty =>
    match p.retained with
    | some k => k.response
    | none => { seq := 0#8, result := .noResponse, payload := [] }

/-- A slot once a FETCH's kind byte is complete (R141). -/
def ReqSlot.afterFetch : ReqSlot → ReqSlot
  | .answered _ => .empty
  | x => x

/-- The first bytes of a response frame, followed by filler bytes, as many as the host shifts in (R131, R141). -/
def shiftOut (frame bytes : List Byte) : List Byte :=
  frame.take bytes.length ++ List.replicate (bytes.length - frame.length) 0x00#8

/-- The port after a FETCH's kind byte (R141). -/
def Port.fetch (p : Port) (bytes : List Byte) : Port :=
  { p with
    slot := p.slot.afterFetch
    dataOut := p.dataOut.take 1 ++ shiftOut (responseFrame p.fetched) bytes }

/-- The port after a LINK_RESET (R144). -/
def Port.linkReset (p : Port) : Port :=
  { p with slot := .empty, retained := none, overrun := false, frameError := false }

/-- The Session Unit at a LINK_RESET (R145). -/
def State.resetSession (s : State) (l : Link) : State :=
  match (s.session l).state with
  | .offline => s
  | .lost => s.setSessionState l .offline
  | .standby => (s.depart l false .offline .reset).1
  | .primary => (s.depart l false .offline .reset).1

/-- A whole link transaction of a kind byte (R131, R183), its status byte and its effect taken at one moment
(assumption 3). -/
def State.transact (s : State) (l : Link) (kind : Byte) (bytes : List Byte) : State :=
  let o := s.openTransaction l bytes
  match kindOf kind with
  | .peek => o
  | .unknown => o.flagFrameError l
  | .send => o.sendFrame l bytes
  | .fetch => o.setPort l ((o.port l).fetch bytes)
  | .linkReset => (o.setPort l (o.port l).linkReset).resetSession l

end Sys2Proof.Machine
end

