-- ==== Sys2Proof/Machine/DeviceEvents.lean ====
section
/-!
DEFINITION. Device reset and its release (R26, R85, R89, R97, R101, R120, R121, R130, R146, R147).
-/

namespace Sys2Proof.Machine

/-- The part held in device reset: every block at its reset state; the key inputs stand as they are outside the part. -/
def State.holdInReset (s : State) : State :=
  { State.reset with
    held := true
    keys := { State.reset.keys with pins := s.keys.pins }
    pending := s.pending }

/-- DEVICE_RESET (R26, R130). -/
def execDeviceReset (s : State) : Outcome :=
  .next s.holdInReset

/-- The debounce of a key at the release: a closed key's 20 ms begin (R101). -/
def debounceAtRelease (c : Contact) : Option Nat :=
  match c with
  | .closed => some 0
  | .opened => none

/-- The release of device reset: the time bases start at their origin, and closed keys are debounced (R38, R85, R101,
R122). -/
def State.release (s : State) : State :=
  ({ s with held := false, time := State.reset.time }).setKeys
    { s.keys with
      timing :=
        { ack := debounceAtRelease s.keys.pins.ack
          silence := debounceAtRelease s.keys.pins.silence
          reset := debounceAtRelease s.keys.pins.reset
          test := debounceAtRelease s.keys.pins.test } }

/-- RESET_RELEASE (R85, R101, R122, R130); nothing to release while the part runs (assumption 2). -/
def execResetRelease (s : State) : Outcome :=
  if s.held then .next s.release else .next s

end Sys2Proof.Machine
end

