-- ==== Sys2Proof/Machine/IndicationRequests.lean ====
section
/-!
DEFINITION. The owner's requests on indications: POST, AMEND, CLEAR, REASSERT, WITHDRAW (R11–R13, R18–R23, R42, R43).
-/

namespace Sys2Proof.Machine

/-! ### POST (R18, R19) -/

/-- The free slots a POST needs: the last four are for alarms (R12). -/
def reserveFor (c : Class) : Nat := if c = .alarm then 1 else 5

/-- The record a POST writes (R19). -/
def PostPayload.record (p : PostPayload) (l : Link) (startIn : Nat) : Record :=
  { owner := some l
    key := p.key
    group := p.group
    cls := p.cls
    priority := p.priority
    latch := p.latch
    horn := p.horn
    policy := p.policy
    glyph := p.glyph
    lifetime := lifetimeOf p.period startIn
    state := if p.latch = .none then .steady else .new
    silenced := false }

/-- The allocation of a slot (R2, R11, R19): the next generation, the record, the newest place in the arrival order, the
Resolver's re-decision, and the low-table flag examined (R13). -/
def State.allocate (s : State) (i : SlotIx) (r : Record) : State :=
  let written :=
    (s.setSlot i { gen := nextGen (s.slot i).gen, content := .live r }).setArrival (s.table.arrival ++ [i])
  (s.surface written r.group).examineAllocation s.table.freeCount

/-- DESIGN CHOICE: a POST is taken in the first half second after power-on as at any other time (R130; assumption 26). -/
def postRequest (l : Link) (payload : List Byte) (s : State) : Reply :=
  needSession s l <| needPayload s (parsePost payload) fun p =>
    if (s.table.findKey l p.key).isSome then .refused s .duplicateKey
    else if s.table.freeCount < reserveFor p.cls then .refused s .tableFull
    else match s.table.lowestFree with
      | none => .refused s .tableFull
      | some i =>
        .ok (s.allocate i (p.record l s.startIn)).redecideHorn (handleBytes i (nextGen (s.slot i).gen))

/-- POST (R18, R19). -/
def execPost (l : Link) (s : State) : Outcome :=
  takeRequest l s (hasCode codePost) (postRequest l)

/-! ### AMEND (R20–R22) -/

/-- A change of the horn field from QUIET to SOUND clears the silenced flag of an unacknowledged record (R21). -/
def Record.amendHorn (r : Record) (h : Option HornField) : Record :=
  match h with
  | none => r
  | some v =>
    if r.state.unacknowledged = true ∧ r.horn = .quiet ∧ v = .sound then { r with horn := v, silenced := false }
    else { r with horn := v }

/-- The selected fields applied (R21, R22). -/
def Record.amend (r : Record) (p : AmendPayload) (startIn : Nat) : Record :=
  let h := r.amendHorn p.horn
  { h with
    priority := p.priority.getD r.priority
    glyph := p.glyph.getD r.glyph
    policy := p.policy.getD r.policy
    lifetime := match p.period with
      | none => r.lifetime
      | some n => lifetimeOf n startIn }

def amendRequest (l : Link) (payload : List Byte) (s : State) : Reply :=
  needSession s l <| needPayload s (parseAmend payload) fun p =>
    needRecord s p.handle fun r => needOwner s r (some l) <|
      .ok (s.surface (s.setRecord p.handle.slot (r.amend p s.startIn)) r.group).redecideHorn []

/-- AMEND (R20, R21). -/
def execAmend (l : Link) (s : State) : Outcome :=
  takeRequest l s (hasCode codeAmend) (amendRequest l)

/-! ### CLEAR (R42) -/

/-- The outcome byte of CLEAR: 1 RETIRED, 2 CLEARED, 3 ALREADY_CLEARED (R42, R185). -/
def clearOutcome (r : Record) : Byte :=
  match annunciate .clear r.latch r.state with
  | .retired => 1#8
  | .moved _ => 2#8
  | .noEffect => 3#8
  | .wrongState => 3#8

def clearRequest (l : Link) (payload : List Byte) (s : State) : Reply :=
  needSession s l <| needPayload s (parseHandle payload) fun h =>
    needRecord s h fun r => needOwner s r (some l) <|
      .ok (s.deliver .clear (.link l) h.slot).redecideHorn [clearOutcome r]

/-- CLEAR (R42). -/
def execClear (l : Link) (s : State) : Outcome :=
  takeRequest l s (hasCode codeClear) (clearRequest l)

/-! ### REASSERT (R43) -/

def reassertRequest (l : Link) (payload : List Byte) (s : State) : Reply :=
  needSession s l <| needPayload s (parseHandle payload) fun h =>
    needRecord s h fun r => needOwner s r (some l) <|
      if annunciate .reassert r.latch r.state = .wrongState then .refused s .wrongState
      else .ok (s.deliver .reassert (.link l) h.slot).redecideHorn []

/-- REASSERT (R43). -/
def execReassert (l : Link) (s : State) : Outcome :=
  takeRequest l s (hasCode codeReassert) (reassertRequest l)

/-! ### WITHDRAW (R23) -/

def withdrawRequest (l : Link) (payload : List Byte) (s : State) : Reply :=
  needSession s l <| needPayload s (parseHandle payload) fun h =>
    needRecord s h fun r => needOwner s r (some l) <| .ok (s.retireFree h.slot).redecideHorn []

/-- WITHDRAW (R23). -/
def execWithdraw (l : Link) (s : State) : Outcome :=
  takeRequest l s (hasCode codeWithdraw) (withdrawRequest l)

end Sys2Proof.Machine
end

