-- ==== Sys2Proof/Machine/Lamp.lean ====
section
/-!
DEFINITION. The lamp test's shared operations: its start and its joining, and its end (R90–R98).
-/

namespace Sys2Proof.Machine

def State.setLamp (s : State) (x : Lamp) : State := s.setPanel { s.panel with lamp := x }

/-- A running test's timed end becomes the later of its present value and `t` (R91, R95). -/
def Lamp.extend (x : Lamp) (t : Nat) : Lamp :=
  { x with timedEnd := some (match x.timedEnd with | some e => max e t | none => t) }

/-- A start that finds the test IDLE begins it, with LAMP started; one that finds it RUNNING can only lengthen it. `hold`
is the key hold that a TEST press sets (R91, R95). -/
def State.startLamp (s : State) (t : Nat) (hold : Bool) : State :=
  if s.panel.lamp.running then
    s.setLamp { s.panel.lamp.extend t with keyHold := s.panel.lamp.keyHold || hold }
  else
    (s.setLamp { running := true, timedEnd := some t, keyHold := hold }).notifyPrimary (.putLamp .started)

/-- The end of a RUNNING test, with LAMP ended (R90, R98). -/
def State.endLamp (s : State) : State :=
  if s.panel.lamp.running then (s.setLamp .idle).notifyPrimary (.putLamp .ended) else s

/-- The timed end of a test has passed (R92, R93). DESIGN CHOICE: it has passed from its own moment on, LAMP_TEST_END taken
or not (assumption 24). -/
def State.lampEndPassed (s : State) : Bool :=
  match s.panel.lamp.timedEnd with
  | some t => decide (t ≤ s.time.clock)
  | none => true

end Sys2Proof.Machine
end

