-- ==== Sys2Proof/Machine/KeyEvents.lean ====
section
/-!
DEFINITION. The Key Port: debounce and recognition (R100, R101), effective modes (R102), what a press does and what a
release does (R103–R110), and the chord timer (R111–R113).
-/

namespace Sys2Proof.Machine

/-! ### Inputs and recognition (R100) -/

/-- A key input comes to stand at `c`: a debounce begins where the input differs from the debounced state, and one under
way is interrupted where it no longer does. -/
def KeyPort.changeInput (p : KeyPort) (k : KeyId) (c : Contact) (clock : Nat) : KeyPort :=
  if p.pins.get k = c then p
  else
    { p with
      pins := p.pins.set k c
      timing := p.timing.set k (if p.debounced.get k = c then none else some clock) }

/-- The key's 20 ms have run without interruption: its debounced state becomes `c`. -/
def KeyPort.recognised (p : KeyPort) (k : KeyId) (c : Contact) : KeyPort :=
  { p with debounced := p.debounced.set k c, timing := p.timing.set k none }

/-- A press (`c` closed) or a release (`c` opened) is recognised where its debounce is being timed, 20 ms after it began;
its action follows at that moment. Otherwise nothing is recognised (assumption 2). -/
def State.recognise (s : State) (k : KeyId) (c : Contact) (act : State → State) : State :=
  match s.keys.timing.get k with
  | none => s
  | some began =>
    if s.keys.debounced.get k = c then s
    else act ((s.reach (began + debounceMicros)).setKeys (s.keys.recognised k c))

/-! ### Modes (R102) -/

/-- The effective mode of a key: its stored mode while a primary exists, LOCAL while there is none. -/
def State.effectiveMode (s : State) (k : KeyId) : KeyMode :=
  match s.sessions.primary with
  | some _ => s.keys.modes.get k
  | none => .isLocal

/-- The key is added to the primary's KEY notice (R110). -/
def State.reportKey (s : State) (k : KeyId) : State := s.notifyPrimary (.putKey k)

/-! ### The chord (R111) -/

/-- A recognised press of ACK or RESET while the other key is CLOSED, with the chord enabled and the timer IDLE, starts
the 4 s count. -/
def State.chordPress (s : State) (otherKey : KeyId) : State :=
  if s.keys.chord = .idle ∧ s.keys.debounced.get otherKey = .closed ∧ s.keys.chordEnable = true then
    s.setKeys { s.keys with chord := .timing (s.time.clock + chordMicros) }
  else s

/-- A recognised release of ACK or RESET returns the timer to IDLE. -/
def State.chordRelease (s : State) : State := s.setKeys { s.keys with chord := .idle }

/-! ### What a press does (R104) -/

/-- An ACK press (R104, R105). -/
def State.ackAction (s : State) : State :=
  match s.effectiveMode .ack with
  | .remote => s.reportKey .ack
  | .isLocal =>
    if s.panel.lamp.running then s.reportKey .ack
    else (s.deliverAll .ack .operator s.visibleUnacknowledged).redecideHorn

/-- A SILENCE press (R104, R106). -/
def State.silenceAction (s : State) : State :=
  match s.effectiveMode .silence with
  | .remote => s.reportKey .silence
  | .isLocal => s.silenceVisible.redecideHorn

/-- A RESET press (R104, R107). -/
def State.resetAction (s : State) : State :=
  match s.effectiveMode .reset with
  | .remote => s.reportKey .reset
  | .isLocal =>
    if s.panel.lamp.running then s.reportKey .reset
    else (s.deliverAll .reset .operator s.visibleAwaitingReset).redecideHorn

/-- A TEST press (R91, R104, R108). -/
def State.testAction (s : State) : State :=
  match s.effectiveMode .test with
  | .remote => s.reportKey .test
  | .isLocal => if s.supply.level = .critical then s else s.startLamp (s.time.clock + secondMicros) true

/-- A TEST release at the Panel Driver, in every mode (R92, R103); one at the very moment of the timed end finds it passed
(assumption 24). -/
def State.testReleaseAction (s : State) : State :=
  if s.panel.lamp.running = true ∧ s.panel.lamp.keyHold = true then
    let cleared := s.setLamp { s.panel.lamp with keyHold := false }
    if s.lampEndPassed then cleared.endLamp else cleared
  else s

/-! ### The commands -/

/-- ACK_KEY_PRESS (R104, R105, R111). -/
def execAckKeyPress (s : State) : Outcome :=
  takeInside s fun x => x.recognise .ack .closed fun y => (y.chordPress .reset).ackAction

/-- SILENCE_KEY_PRESS (R104, R106). -/
def execSilenceKeyPress (s : State) : Outcome :=
  takeInside s fun x => x.recognise .silence .closed State.silenceAction

/-- RESET_KEY_PRESS (R104, R107, R111). -/
def execResetKeyPress (s : State) : Outcome :=
  takeInside s fun x => x.recognise .reset .closed fun y => (y.chordPress .ack).resetAction

/-- TEST_KEY_PRESS (R91, R104, R108). -/
def execTestKeyPress (s : State) : Outcome :=
  takeInside s fun x => x.recognise .test .closed State.testAction

/-- TEST_KEY_RELEASE (R92, R103). -/
def execTestKeyRelease (s : State) : Outcome :=
  takeInside s fun x => x.recognise .test .opened State.testReleaseAction

/-- ACK_KEY_RELEASE (R103, R111). -/
def execAckKeyRelease (s : State) : Outcome :=
  takeInside s fun x => x.recognise .ack .opened State.chordRelease

/-- RESET_KEY_RELEASE (R103, R111). -/
def execResetKeyRelease (s : State) : Outcome :=
  takeInside s fun x => x.recognise .reset .opened State.chordRelease

/-- SILENCE_KEY_RELEASE (R103): no effect beyond the debounced state. -/
def execSilenceKeyRelease (s : State) : Outcome :=
  takeInside s fun x => x.recognise .silence .opened id

/-- KEY_INPUT_CHANGE (R100). While the part is held in device reset the input changes and no debounce is timed (R101). -/
def execKeyInputChange (dt : Nat) (k : KeyId) (c : Contact) (s : State) : Outcome :=
  if s.held then .next (s.setKeys { s.keys with pins := s.keys.pins.set k c })
  else takeOutside dt s fun x => x.setKeys (x.keys.changeInput k c x.time.clock)

/-- The chord's 4 s have elapsed: FIRED, the orphan purge, and the PURGE notice (R111–R113). -/
def State.fireChord (s : State) : State :=
  match s.keys.chord with
  | .timing fires =>
    let fired := (s.reach fires).setKeys { s.keys with chord := .fired }
    (fired.purgeOrphans.notifyPrimary .putPurge).redecideHorn
  | .idle => s
  | .fired => s

/-- CHORD_FIRE (R111, R112). -/
def execChordFire (s : State) : Outcome :=
  takeInside s State.fireChord

end Sys2Proof.Machine
end

