-- ==== Sys2Proof/Machine/LinkTransactions.lean ====
section
/-!
DEFINITION. The link transactions: PEEK, SEND, FETCH, LINK_RESET (R131–R146, R183, R184).
-/

namespace Sys2Proof.Machine

/-- PEEK (R134). Without a whole kind byte the transaction has no effect (R131). -/
def execPeek (dt : Nat) (l : Link) (kind : Option Byte) (bytes : List Byte) (s : State) : Outcome :=
  takeOutside dt s fun x =>
    match kind with
    | none => x
    | some k => x.transact l k bytes

/-- SEND (R135, R136, R137, R143). -/
def execSend (dt : Nat) (l : Link) (bytes : List Byte) (s : State) : Outcome :=
  takeOutside dt s fun x => x.transact l 0x01#8 bytes

/-- FETCH (R141, R142). -/
def execFetch (dt : Nat) (l : Link) (bytes : List Byte) (s : State) : Outcome :=
  takeOutside dt s fun x => x.transact l 0x02#8 bytes

/-- LINK_RESET (R144, R145). -/
def execLinkReset (dt : Nat) (l : Link) (bytes : List Byte) (s : State) : Outcome :=
  takeOutside dt s fun x => x.transact l 0x0E#8 bytes

end Sys2Proof.Machine
end

