-- ==== Sys2Proof/Machine/PrimaryRequests.lean ====
section
/-!
DEFINITION. The primary's requests: ACKNOWLEDGE, REMOTE_RESET, SILENCE, RETIRE, STAGE_MAP, COMMIT_MAP, ABORT_MAP,
LAMP_TEST, CONFIGURE, RESTART (R24, R25, R44–R47, R72–R75, R79, R94, R95, R114, R180).
-/

namespace Sys2Proof.Machine

/-! ### ACKNOWLEDGE and REMOTE_RESET (R44–R47) -/

/-- One event delivered to each target by the primary, answered with the count of records it moved or retired. -/
def State.deliverCounted (s : State) (ev : RecordEvent) (l : Link) (slots : List SlotIx) : Reply :=
  .ok (s.deliverAll ev (.link l) slots).redecideHorn [byteOf (slots.countP (s.answersTo ev))]

/-- ACKNOWLEDGE and REMOTE_RESET: `visible` is the set that ALL_VISIBLE takes, fixed before any member changes. -/
def targetsRequest (ev : RecordEvent) (visible : State → List SlotIx) (l : Link) (payload : List Byte) (s : State) :
    Reply :=
  needSession s l <| needPrimary s l <| needPayload s (parseTargets payload) fun t =>
    match t with
    | .handles hs =>
      if hs.all fun h => (s.table.resolve h).isSome then s.deliverCounted ev l (hs.map Handle.slot)
      else .refused s .staleHandle
    | .allVisible => s.deliverCounted ev l (visible s)

/-- ACKNOWLEDGE in HANDLES mode (R44, R45). -/
def execAcknowledgeHandles (l : Link) (s : State) : Outcome :=
  takeRequest l s (isHandlesMode codeAcknowledge) (targetsRequest .ack State.visibleUnacknowledged l)

/-- ACKNOWLEDGE in ALL_VISIBLE mode (R44, R46). -/
def execAcknowledgeAllVisible (l : Link) (s : State) : Outcome :=
  takeRequest l s (isAllVisibleMode codeAcknowledge) (targetsRequest .ack State.visibleUnacknowledged l)

/-- REMOTE_RESET in HANDLES mode (R47). -/
def execRemoteResetHandles (l : Link) (s : State) : Outcome :=
  takeRequest l s (isHandlesMode codeRemoteReset) (targetsRequest .reset State.visibleAwaitingReset l)

/-- REMOTE_RESET in ALL_VISIBLE mode (R47). -/
def execRemoteResetAllVisible (l : Link) (s : State) : Outcome :=
  takeRequest l s (isAllVisibleMode codeRemoteReset) (targetsRequest .reset State.visibleAwaitingReset l)

/-! ### SILENCE (R114) -/

def silenceRequest (l : Link) (payload : List Byte) (s : State) : Reply :=
  needSession s l <| needPrimary s l <| needPayload s (parseEmpty payload) fun _ =>
    .ok s.silenceVisible.redecideHorn [byteOf (s.visibleUnacknowledged.countP s.isUnsilenced)]

/-- SILENCE (R114). -/
def execSilence (l : Link) (s : State) : Outcome :=
  takeRequest l s (hasCode codeSilence) (silenceRequest l)

/-! ### RETIRE (R24) -/

def retireRequest (l : Link) (payload : List Byte) (s : State) : Reply :=
  needSession s l <| needPrimary s l <| needPayload s (parseHandle payload) fun h =>
    needRecord s h fun _ => .ok (s.retire (.link l) .retiredByPrimary h.slot).redecideHorn []

/-- RETIRE (R24). -/
def execRetire (l : Link) (s : State) : Outcome :=
  takeRequest l s (hasCode codeRetire) (retireRequest l)

/-! ### STAGE_MAP (R72, R73) -/

def State.stageEntry (s : State) (g : Group) (e : MapEntry) : State :=
  s.setMap { s.map with staged := s.map.staged.set g.val e g.isLt }

def stageMapRequest (l : Link) (payload : List Byte) (s : State) : Reply :=
  needSession s l <| needPrimary s l <| needPayload s (parseStage payload) fun p => needIdleCommit s <|
    .ok (s.stageEntry p.group p.entry) []

/-- STAGE_MAP (R72, R73). -/
def execStageMap (l : Link) (s : State) : Outcome :=
  takeRequest l s (hasCode codeStageMap) (stageMapRequest l)

/-! ### COMMIT_MAP (R74, R75) -/

/-- The groups of a map that list a point, in ascending order. -/
def groupsListing (m : Vector MapEntry 24) (p : Point) : List Group :=
  allGroups.filter fun g => (m.get g).points.contains p

/-- A point's conflict: the two lowest-numbered groups that list it (R74). -/
def conflictAt (m : Vector MapEntry 24) (p : Point) : Option (Point × Group × Group) :=
  match groupsListing m p with
  | g :: h :: _ => some (p, g, h)
  | _ => none

/-- The lowest-numbered conflicting point of a map, with its groups; none for a valid map (R74). -/
def mapConflict (m : Vector MapEntry 24) : Option (Point × Group × Group) :=
  (List.finRange 96).findSome? (conflictAt m)

def commitMapRequest (l : Link) (payload : List Byte) (s : State) : Reply :=
  needSession s l <| needPrimary s l <| needPayload s (parseEmpty payload) fun _ => needIdleCommit s <|
    match mapConflict s.map.staged with
    | some (p, g, h) => { state := s, answer := some (.mapConflict, [byteOf p.val, byteOf g.val, byteOf h.val]) }
    | none => { state := s.setMap { s.map with commit := .pending }, answer := some (.accepted, []) }

/-- COMMIT_MAP (R74, R75). -/
def execCommitMap (l : Link) (s : State) : Outcome :=
  takeRequest l s (hasCode codeCommitMap) (commitMapRequest l)

/-! ### ABORT_MAP (R79) -/

/-- In PENDING the commit ends and the staged map is kept; in IDLE the staged map is reset (R79). -/
def State.abortMap (s : State) : State :=
  match s.map.commit with
  | .pending => (s.setMap { s.map with commit := .idle }).commitEnded
  | .idle => s.setMap { s.map with staged := s.map.active }

def abortMapRequest (l : Link) (payload : List Byte) (s : State) : Reply :=
  needSession s l <| needPrimary s l <| needPayload s (parseEmpty payload) fun _ => .ok s.abortMap []

/-- ABORT_MAP (R79). -/
def execAbortMap (l : Link) (s : State) : Outcome :=
  takeRequest l s (hasCode codeAbortMap) (abortMapRequest l)

/-! ### LAMP_TEST (R94, R95) -/

/-- The outcome byte of LAMP_TEST: 1 STARTED, 2 RUNNING (R185). -/
def lampOutcome (s : State) : Byte := if s.panel.lamp.running then 2#8 else 1#8

def lampTestRequest (l : Link) (payload : List Byte) (s : State) : Reply :=
  needSession s l <|
    if s.isPrimary l = true ∧ s.supply.level ≠ .critical then
      needPayload s (parseLampTest payload) fun d =>
        .ok (s.startLamp (s.time.clock + d * secondMicros) false) [lampOutcome s]
    else .refused s .denied

/-- LAMP_TEST (R94, R95). -/
def execLampTest (l : Link) (s : State) : Outcome :=
  takeRequest l s (hasCode codeLampTest) (lampTestRequest l)

/-! ### CONFIGURE (R180) -/

/-- The chord timer as the chord enable is stored: it returns to IDLE when the enable passes from on to off (R111,
R119). -/
def KeyPort.configure (k : KeyPort) (p : ConfigurePayload) : KeyPort :=
  { k with
    modes := p.modes
    chordEnable := p.chordEnable
    chord := if k.chordEnable = true ∧ p.chordEnable = false then .idle else k.chord }

/-- Every field stored (R180). -/
def State.storeConfiguration (s : State) (p : ConfigurePayload) : State :=
  ((s.setHorn { s.horn with enable := p.hornEnable }).setKeys (s.keys.configure p)).setSupply
    { s.supply with shedding := p.shedding }

/-- The fields stored, the groups re-decided where shedding has changed, and the horn decided once (R127, R180). -/
def State.applyConfiguration (s : State) (p : ConfigurePayload) : State :=
  let stored := s.storeConfiguration p
  (if s.supply.shedding = p.shedding then stored else s.surfaceAll stored).redecideHorn

def configureRequest (l : Link) (payload : List Byte) (s : State) : Reply :=
  needSession s l <| needPrimary s l <| needPayload s (parseConfigure payload) fun p => .ok (s.applyConfiguration p) []

/-- CONFIGURE (R180). -/
def execConfigure (l : Link) (s : State) : Outcome :=
  takeRequest l s (hasCode codeConfigure) (configureRequest l)

/-! ### RESTART (R25) -/

/-- Every slot FREE with its generation kept, the arrival order empty, the low-table flag clear (R25). -/
def Table.emptied (t : Table) : Table :=
  { slots := mapVector (fun x => { x with content := .free }) t.slots, arrival := [], low := false }

def State.emptyChanged (s : State) (l : Link) : State := s.setSession l { s.session l with changed := [] }

/-- A chord timer that is TIMING restarts its count (R25, R111). -/
def Chord.restart (c : Chord) (clock : Nat) : Chord :=
  match c with
  | .timing _ => .timing (clock + chordMicros)
  | x => x

/-- RESTART's changes (R25, R97, R111, R120, R167). -/
def State.restartTable (s : State) : State :=
  let emptied := ((s.setTable s.table.emptied).emptyChanged .a).emptyChanged .b
  let told := (emptied.notifyBoth .putRestart).endLamp
  (told.setKeys { told.keys with chord := told.keys.chord.restart s.time.clock }).redecideHorn

def restartRequest (l : Link) (payload : List Byte) (s : State) : Reply :=
  needSession s l <| needPrimary s l <| needPayload s (parseEmpty payload) fun _ => needIdleCommit s <|
    .ok s.restartTable []

/-- RESTART (R25). -/
def execRestart (l : Link) (s : State) : Outcome :=
  takeRequest l s (hasCode codeRestart) (restartRequest l)

end Sys2Proof.Machine
end

