-- ==== Sys2Proof/Machine/Queries.lean ====
section
/-!
DEFINITION. The queries, which change nothing: FIND, QUERY, LIST_GROUP, PANEL_STATUS, READ_MAP (R80, R176–R179, R185).
-/

namespace Sys2Proof.Machine

/-! ### FIND (R176) -/

def findRequest (l : Link) (payload : List Byte) (s : State) : Reply :=
  needSession s l <| needPayload s (parseFind payload) fun k =>
    match s.table.findKey l k with
    | some i => .ok s (handleBytes i (s.slot i).gen)
    | none => .refused s .notFound

/-- FIND (R176). -/
def execFind (l : Link) (s : State) : Outcome :=
  takeRequest l s (hasCode codeFind) (findRequest l)

/-! ### QUERY (R177) -/

/-- The QUERY response: nineteen bytes (R185). -/
def State.queryBytes (s : State) (i : SlotIx) (r : Record) : List Byte :=
  let period := (r.lifetime.map Lifetime.period).getD 0
  let remaining := (r.lifetime.map Lifetime.remaining).getD 0
  let claims := s.table.claimList r.group
  [linkCode r.owner] ++ bytes16 r.key ++
    [byteOf r.group.val, r.cls.code, byteOf r.priority.val, r.latch.code, r.horn.code, r.policy.code, r.glyph] ++
    bytes16 (BitVec.ofNat 16 period) ++ bytes16 (BitVec.ofNat 16 remaining) ++
    [r.state.code, flagByte r.silenced, byteOf (claims.idxOf i), byteOf claims.length, flagByte (s.isVisible i)]

def queryRequest (l : Link) (payload : List Byte) (s : State) : Reply :=
  needSession s l <| needPayload s (parseHandle payload) fun h =>
    needRecord s h fun r => .ok s (s.queryBytes h.slot r)

/-- QUERY (R177). -/
def execQuery (l : Link) (s : State) : Outcome :=
  takeRequest l s (hasCode codeQuery) (queryRequest l)

/-! ### LIST_GROUP (R178) -/

/-- The most entries one LIST_GROUP reports (R178). -/
def listLimit : Nat := 10

/-- Owner in bits 7–6, class in bits 5–4, annunciation state in bits 2–0 (R185). DESIGN CHOICE: bit 3, which has no meaning,
is sent as 0 (assumption 25). -/
def packEntry (owner cls st : Byte) : Byte := (owner <<< 6) ||| (cls <<< 4) ||| st

/-- One entry of LIST_GROUP: handle, key, and owner, class and state in one byte (R185). -/
def State.listEntry (s : State) (i : SlotIx) : Option (List Byte) :=
  (s.record i).map fun r =>
    handleBytes i (s.slot i).gen ++ bytes16 r.key ++
      [packEntry (linkCode r.owner) r.cls.code r.state.code]

def State.listBytes (s : State) (g : Group) (start : Nat) : List Byte :=
  let claims := s.table.claimList g
  let entries := ((claims.drop start).take listLimit).filterMap s.listEntry
  byteOf claims.length :: flagByte (s.visibleSlot g).isSome :: byteOf entries.length :: entries.flatten

def listGroupRequest (l : Link) (payload : List Byte) (s : State) : Reply :=
  needSession s l <| needPayload s (parseListGroup payload) fun p => .ok s (s.listBytes p.1 p.2)

/-- LIST_GROUP (R178). -/
def execListGroup (l : Link) (s : State) : Outcome :=
  takeRequest l s (hasCode codeListGroup) (listGroupRequest l)

/-! ### PANEL_STATUS (R179) -/

/-- The PANEL_STATUS response: fourteen bytes (R185). -/
def State.panelStatusBytes (s : State) : List Byte :=
  [linkCode s.sessions.primary, linkCode s.sessions.permit, (s.session .a).state.code, (s.session .b).state.code,
   s.supply.level.code, flagByte s.supply.shedding, s.horn.state.code, flagByte s.panel.lamp.running, s.map.commit.code,
   byteOf s.table.freeCount, byteOf s.table.liveCount, byteOf s.table.tombstoneCount, byteOf s.table.orphanCount,
   byteOf s.panel.frame.val]

def panelStatusRequest (l : Link) (payload : List Byte) (s : State) : Reply :=
  needSession s l <| needPayload s (parseEmpty payload) fun _ => .ok s s.panelStatusBytes

/-- PANEL_STATUS (R179). -/
def execPanelStatus (l : Link) (s : State) : Outcome :=
  takeRequest l s (hasCode codePanelStatus) (panelStatusRequest l)

/-! ### READ_MAP (R80) -/

/-- The READ_MAP response (R185). -/
def State.readMapBytes (s : State) (e : MapEntry) : List Byte :=
  s.map.commit.code :: e.idle :: byteOf e.points.length :: e.points.map fun p => byteOf p.val

def readMapRequest (l : Link) (payload : List Byte) (s : State) : Reply :=
  needSession s l <|
    if selectsStaged payload = true ∧ s.isPrimary l = false then .refused s .denied
    else needPayload s (parseReadMap payload) fun p =>
      .ok s (s.readMapBytes (if p.2 then s.map.staged.get p.1 else s.map.active.get p.1))

/-- READ_MAP (R80). -/
def execReadMap (l : Link) (s : State) : Outcome :=
  takeRequest l s (hasCode codeReadMap) (readMapRequest l)

end Sys2Proof.Machine
end

