-- ==== Sys2Proof/Machine/RoleRequests.lean ====
section
/-!
DEFINITION. The role requests: PERMIT, TAKEOVER, YIELD, CLAIM_ORPHAN, and the completion of a waiting TAKEOVER (R158–R164).
-/

namespace Sys2Proof.Machine

/-! ### PERMIT (R162) -/

/-- A grant that passes: the permit set on the other link, with the notice. -/
def State.grantPermit (s : State) (l : Link) : State :=
  (s.setSessions { s.sessions with permit := some l.other }).notify l.other (.putPermit .granted)

/-- A withdraw that finds the permit held: cleared, with the notice, and a waiting TAKEOVER answered DENIED (R164). -/
def State.withdrawPermit (s : State) : State :=
  match s.sessions.permit with
  | none => s
  | some h =>
    let told := (s.setSessions { s.sessions with permit := none }).notify h (.putPermit .withdrawn)
    if s.sessions.waiting = some h then
      (told.setSessions { told.sessions with waiting := none }).answerExecuting h .denied
    else told

def permitRequest (l : Link) (payload : List Byte) (s : State) : Reply :=
  needSession s l <| needPrimary s l <| needPayload s (parsePermit payload) fun grant =>
    if grant then
      if (s.session l.other).state = .standby then .ok (s.grantPermit l) [] else .refused s .wrongState
    else .ok s.withdrawPermit []

/-- PERMIT with value grant (R162). -/
def execPermitGrant (l : Link) (s : State) : Outcome :=
  takeRequest l s isPermitGrant (permitRequest l)

/-- PERMIT with value withdraw (R162). -/
def execPermitWithdraw (l : Link) (s : State) : Outcome :=
  takeRequest l s isPermitWithdraw (permitRequest l)

/-! ### TAKEOVER (R163, R164) -/

/-- The role check of a TAKEOVER fails: a STANDBY caller without the permit while a primary exists (R163). -/
def State.takeoverDenied (s : State) (l : Link) : Bool :=
  (s.session l).state == .standby && s.sessions.primary.isSome && s.sessions.permit != some l

/-- A TAKEOVER that passes its checks, on the state it finds (R163). -/
def State.takeRole (s : State) (l : Link) : Reply :=
  match s.sessions.primary with
  | none => .ok ((s.setSessionState l .primary).changePrimary (some l)) []
  | some _ =>
    if s.map.commit = .idle then .ok (s.swapRoles l) []
    else .waits (s.setSessions { s.sessions with waiting := some l })

def takeoverRequest (l : Link) (payload : List Byte) (s : State) : Reply :=
  needSession s l <|
    if s.takeoverDenied l then .refused s .denied
    else needPayload s (parseEmpty payload) fun _ =>
      if (s.session l).state = .primary then .refused s .wrongState else s.takeRole l

/-- TAKEOVER (R163). -/
def execTakeover (l : Link) (s : State) : Outcome :=
  takeRequest l s (hasCode codeTakeover) (takeoverRequest l)

/-- TAKEOVER_COMPLETE: a TAKEOVER whose commit has ended is completed with the swap (R164). -/
def execTakeoverComplete (s : State) : Outcome :=
  takeInside s id

/-! ### YIELD (R161) -/

def yieldRequest (l : Link) (payload : List Byte) (s : State) : Reply :=
  needSession s l <| needPrimary s l <| needPayload s (parseEmpty payload) fun _ => needIdleCommit s <|
    let yielded := s.setSessionState l .standby
    if (s.session l.other).state = .standby then .ok (yielded.promote l.other) [1#8]
    else .ok (yielded.changePrimary none) [2#8]

/-- YIELD (R161). -/
def execYield (l : Link) (s : State) : Outcome :=
  takeRequest l s (hasCode codeYield) (yieldRequest l)

/-! ### CLAIM_ORPHAN (R158) -/

def claimRequest (l : Link) (payload : List Byte) (s : State) : Reply :=
  needSession s l <| needPrimary s l <| needPayload s (parseClaim payload) fun p =>
    needRecord s p.handle fun r => needOwner s r none <|
      if (s.table.findKey l p.key).isSome then .refused s .duplicateKey
      else
        .ok (s.setRecord p.handle.slot { r with owner := some l, key := p.key })
          (handleBytes p.handle.slot p.handle.gen)

/-- CLAIM_ORPHAN (R158). -/
def execClaimOrphan (l : Link) (s : State) : Outcome :=
  takeRequest l s (hasCode codeClaimOrphan) (claimRequest l)

end Sys2Proof.Machine
end

