-- ==== Sys2Proof/Machine/SessionRequests.lean ====
section
/-!
DEFINITION. UNKNOWN_REQUEST and the session requests: ATTACH, DETACH, PING, SET_ATTENTION, COLLECT (R149–R154, R172–R174,
R181).
-/

namespace Sys2Proof.Machine

/-- A code that names no request (R181 step 1). -/
def namesNoRequest (r : Request) : Bool := !requestCodes.contains r.code

/-- UNKNOWN_REQUEST (R138, R181). -/
def execUnknownRequest (l : Link) (s : State) : Outcome :=
  takeRequest l s namesNoRequest fun _ x => .refused x .unknownRequest

/-! ### ATTACH (R149, R150) -/

/-- Whether an ATTACH makes its link PRIMARY: it wishes so and the panel has none. -/
def AttachPayload.takesRole (p : AttachPayload) (s : State) : Bool := p.wishPrimary && s.sessions.primary.isNone

/-- The session an ATTACH opens. -/
def AttachPayload.session (p : AttachPayload) (s : State) : LinkSession :=
  { state := if p.takesRole s then .primary else .standby
    keepalive := some { interval := p.interval, count := p.interval, startIn := s.startIn }
    failover := p.failover
    mask := allKinds
    notices := .none
    changed := [] }

/-- The session opened and the role taken where the wish is met. -/
def State.openSession (s : State) (l : Link) (p : AttachPayload) : State :=
  let opened := s.setSession l (p.session s)
  if p.takesRole s then opened.changePrimary (some l) else opened

/-- The flags of the ATTACH response: bit 0 standby assigned, bit 1 RESUMED (R185). DESIGN CHOICE: bits 7–2, which have no
meaning, are sent as 0 (assumption 25). -/
def attachFlags (p : AttachPayload) (l : Link) (s : State) : Byte :=
  statusBit 0 (p.wishPrimary && !p.takesRole s) ||| statusBit 1 ((s.session l).state == .lost)

/-- DESIGN CHOICE: an ATTACH is taken from the release of device reset on, though R130 has no link in session in the first
half second after power-on (assumption 26). -/
def attachRequest (l : Link) (payload : List Byte) (s : State) : Reply :=
  needPayload s (parseAttach payload) fun p =>
    if s.inSession l then .refused s .wrongState
    else .ok ((s.openSession l p).notify l.other (.putPeer .joined)) [(p.session s).state.code, attachFlags p l s]

/-- ATTACH (R149, R150). -/
def execAttach (l : Link) (s : State) : Outcome :=
  takeRequest l s (hasCode codeAttach) (attachRequest l)

/-! ### DETACH (R153) -/

def detachRequest (l : Link) (payload : List Byte) (s : State) : Reply :=
  needSession s l <| needPayload s (parseDetach payload) fun all =>
    let departed := s.depart l all .offline .left
    .ok departed.1 [byteOf departed.2.freed, byteOf departed.2.kept, byteOf departed.2.adopted]

/-- DETACH in mode WITHDRAW_ALL (R153). -/
def execDetachWithdrawAll (l : Link) (s : State) : Outcome :=
  takeRequest l s isDetachWithdrawAll (detachRequest l)

/-- DETACH in mode LEAVE (R153). -/
def execDetachLeave (l : Link) (s : State) : Outcome :=
  takeRequest l s isDetachLeave (detachRequest l)

/-! ### PING (R152) -/

def State.keepaliveInterval (s : State) (l : Link) : Nat :=
  ((s.session l).keepalive.map Keepalive.interval).getD 0

def pingRequest (l : Link) (payload : List Byte) (s : State) : Reply :=
  needSession s l <| needPayload s (parseEmpty payload) fun _ =>
    .ok s
      [(s.session l).state.code, linkCode s.sessions.primary, flagByte (s.sessions.permit == some l),
       byteOf (s.keepaliveInterval l)]

/-- PING (R152). -/
def execPing (l : Link) (s : State) : Outcome :=
  takeRequest l s (hasCode codePing) (pingRequest l)

/-! ### SET_ATTENTION (R172) -/

def setAttentionRequest (l : Link) (payload : List Byte) (s : State) : Reply :=
  needSession s l <| needPayload s (parseMask payload) fun m =>
    .ok (s.setSession l { s.session l with mask := m }) (bytes16 m)

/-- SET_ATTENTION (R172). -/
def execSetAttention (l : Link) (s : State) : Outcome :=
  takeRequest l s (hasCode codeSetAttention) (setAttentionRequest l)

/-! ### COLLECT (R173, R174) -/

/-- A value byte: 0 when its kind is not returned (R185). -/
def valueByte {α : Type} (code : α → Byte) (v : Option α) : Byte := (v.map code).getD 0#8

/-- The values of the notice part, in the order of R185. -/
def NoticeSet.values (n : NoticeSet) : List Byte :=
  [valueByte RoleNotice.code n.role, valueByte PermitNotice.code n.permit, valueByte PeerNotice.code n.peer,
   valueByte MapNotice.code n.map, valueByte Level.code n.supply, keySetByte n.key, valueByte LampNotice.code n.lamp,
   valueByte AdoptionNotice.code n.adoption]

/-- One entry of the changed part (R174, R185). DESIGN CHOICE: bit 6 of byte 0, which has no meaning, is sent as 0
(assumption 25). -/
def State.entryOf (s : State) (i : SlotIx) : Option (List Byte) :=
  match (s.slot i).content with
  | .free => none
  | .live r => some (byteOf i.val :: (s.slot i).gen :: bytes16 r.key ++ [r.state.code])
  | .tombstone t =>
    some ((byteOf i.val ||| 0x80#8) :: (s.slot i).gen :: bytes16 t.key ++ [(t.reason.code <<< 4) ||| t.stateAt.code])

/-- The most entries one COLLECT reports (R174). -/
def collectLimit : Nat := 8

/-- A reported tombstone is freed (R17, R174). -/
def State.freeReported (s : State) (i : SlotIx) : State :=
  if (s.slot i).isTombstone then s.setContent i .free else s

/-- The state a COLLECT leaves: the stored kinds removed, the reported slots out of the changed set, their tombstones
freed (R173, R174). -/
def State.collected (s : State) (l : Link) : State :=
  let x := s.session l
  let drained := s.setSession l { x with notices := .none, changed := x.changed.drop collectLimit }
  ((x.changed.take collectLimit).foldl State.freeReported drained).examineFreeing s.table.freeCount

/-- The COLLECT response (R185). DESIGN CHOICE: bits 6–4 of byte 10, which have no meaning, are sent as 0
(assumption 25). -/
def State.collectBytes (s : State) (l : Link) : List Byte :=
  let x := s.session l
  let more := !(x.changed.drop collectLimit).isEmpty
  let entries := (x.changed.take collectLimit).filterMap s.entryOf
  bytes16 (x.notices.kinds more) ++ x.notices.values ++
    (statusBit 7 more ||| byteOf entries.length) :: entries.flatten

def collectRequest (l : Link) (payload : List Byte) (s : State) : Reply :=
  needSession s l <| needPayload s (parseEmpty payload) fun _ => .ok (s.collected l) (s.collectBytes l)

/-- COLLECT (R173, R174). -/
def execCollect (l : Link) (s : State) : Outcome :=
  takeRequest l s (hasCode codeCollect) (collectRequest l)

end Sys2Proof.Machine
end

