-- ==== Sys2Proof/Machine/TimerEvents.lean ====
section
/-!
DEFINITION. The timer events: TICK, EXPIRE, KEEPALIVE_EXPIRY (R31, R38, R151), FRAME_START and COMMIT_COMPLETION (R76,
R85, R88), LAMP_TEST_END (R93), HORN_PHASE_END (R117), SUPPLY_SAMPLE (R122–R126).
-/

namespace Sys2Proof.Machine

/-! ### Ticks and expiries -/

/-- Expiries that have come and were not taken are taken before the next tick, slots in ascending order, then Link A and
Link B (assumption 5). -/
def State.takeDueExpiries (s : State) : State :=
  ((allSlots.foldl State.expireSlot s).expireKeepalive .a).expireKeepalive .b

def LinkSession.tick (x : LinkSession) : LinkSession :=
  if x.state.inSession then { x with keepalive := x.keepalive.map Keepalive.tick } else x

/-- A tick boundary: running lifetimes and keepalives are started or lose one (R38, R151). -/
def State.countTick (s : State) : State :=
  let boundary := s.reach (tickMicros * (s.time.ticks + 1))
  let counted := boundary.setTime { boundary.time with ticks := s.time.ticks + 1 }
  let aged := counted.setTable { s.table with slots := mapVector Slot.tick s.table.slots }
  (aged.setSession .a (s.session .a).tick).setSession .b (s.session .b).tick

/-- TICK (R38, R151). -/
def execTick (s : State) : Outcome :=
  takeInside s fun x => x.takeDueExpiries.countTick

/-- EXPIRE (R31, R38). -/
def execExpire (i : SlotIx) (s : State) : Outcome :=
  takeInside s fun x => x.expireSlot i

/-- KEEPALIVE_EXPIRY (R151). -/
def execKeepaliveExpiry (l : Link) (s : State) : Outcome :=
  takeInside s fun x => x.expireKeepalive l

/-! ### Frames and the commit (R76, R85, R88) -/

/-- The moment the frame after the present one begins (R85). -/
def State.nextFrameAt (s : State) : Nat :=
  secondMicros * s.time.cycles + frameMicros * (s.panel.frame.val + 1)

/-- The counter advances; from 63 it passes to 0, and a cadence cycle begins (R85). -/
def State.advanceFrame (s : State) : State :=
  let r := s.reach s.nextFrameAt
  if s.panel.frame = 63 then
    (r.setTime { r.time with cycles := s.time.cycles + 1 }).setPanel { s.panel with frame := 0 }
  else r.setPanel { s.panel with frame := s.panel.frame + 1 }

/-- The completion of a commit, in the stages of R76. -/
def State.completeCommit (s : State) : State :=
  let copied := s.setMap { s.map with active := s.map.staged, commit := .idle }
  ((s.surfaceAll copied).notifyPrimary (.putMap .committed)).commitEnded.redecideHorn

/-- The next frame is the frame 0 that completes a PENDING commit (R75, R76). -/
def State.endsCommit (s : State) : Bool := s.panel.frame == 63 && s.map.commit == .pending

/-- A frame begins: the counter advances, a PENDING commit is completed with the frame 0 that begins a cadence cycle, and
the frame is composed from what then stands (R76, R85, R88). -/
def State.startFrame (s : State) : State :=
  (if s.endsCommit then s.advanceFrame.completeCommit else s.advanceFrame).composeFrame

/-- FRAME_START (R85, R88). -/
def execFrameStart (s : State) : Outcome :=
  takeInside s State.startFrame

/-- COMMIT_COMPLETION (R76): the completion is one event with the frame 0 that it begins (R88; assumption 7), and nothing
where the next frame completes no commit (assumption 2). -/
def execCommitCompletion (s : State) : Outcome :=
  takeInside s fun x => if x.endsCommit then x.startFrame else x

/-! ### The lamp test's timed end (R93) -/

/-- The timed end of a RUNNING test passes: the test ends unless the key hold is set. -/
def State.passTimedEnd (s : State) : State :=
  match s.panel.lamp.timedEnd with
  | none => s
  | some t =>
    if s.panel.lamp.running then
      if s.panel.lamp.keyHold then s.reach t else (s.reach t).endLamp
    else s

/-- LAMP_TEST_END (R93). -/
def execLampTestEnd (s : State) : Outcome :=
  takeInside s State.passTimedEnd

/-! ### Horn phases (R117) -/

/-- The end of a tone's phase begins the other phase. -/
def State.endHornPhase (s : State) : State :=
  if s.horn.state = .off then s
  else
    (s.reach s.horn.phaseEnd).setHorn
      { s.horn with sounding := !s.horn.sounding, phaseEnd := s.horn.phaseEnd + s.horn.state.phaseMicros }

/-- HORN_PHASE_END (R117). -/
def execHornPhaseEnd (s : State) : Outcome :=
  takeInside s State.endHornPhase

/-! ### Supply samples (R122–R126) -/

/-- The LOW threshold of R122, in millivolts at the pin. DESIGN CHOICE: the four thresholds are met exactly, without the
±30 mV that 00_scope.md gives as their accuracy (assumption 23). -/
def lowThreshold : Nat := 4400

/-- The CRITICAL threshold (R122; assumption 23). -/
def criticalThreshold : Nat := 4150

/-- The threshold for leaving CRITICAL (R122; assumption 23). -/
def leaveCritical : Nat := 4250

/-- The threshold for leaving LOW (R122; assumption 23). -/
def leaveLow : Nat := 4500

/-- A sample that qualifies for a rise: the first sets the count, the second raises the level one step (R124). -/
def qualifies (m : SupplyMonitor) (upTo : Level) : SupplyMonitor :=
  if m.recovery = 1 then { m with level := upTo, recovery := 0 } else { m with recovery := 1 }

/-- The Supply Monitor after a sample (R123, R124). -/
def SupplyMonitor.sample (m : SupplyMonitor) (mv : Nat) : SupplyMonitor :=
  match m.level with
  | .normal =>
    if mv < criticalThreshold then { m with level := .critical, recovery := 0 }
    else if mv < lowThreshold then { m with level := .low, recovery := 0 }
    else { m with recovery := 0 }
  | .low =>
    if mv < criticalThreshold then { m with level := .critical, recovery := 0 }
    else if leaveLow < mv then qualifies m .normal
    else { m with recovery := 0 }
  | .critical =>
    if leaveCritical < mv then qualifies m .low
    else { m with recovery := 0 }

/-- A change of level handed on: the groups re-decided, a lamp test ended at CRITICAL, SUPPLY to every link in session
(R125, R126). `before` is the state before the sample. -/
def State.levelChanged (before s : State) : State :=
  let decided := (before.surfaceAll s).redecideHorn
  let lamped := if s.supply.level = .critical then decided.endLamp else decided
  lamped.notifyBoth (.putSupply s.supply.level)

/-- One sample (R122–R126). -/
def State.takeSample (s : State) (mv : Nat) : State :=
  let r := s.reach (sampleMicros * (s.time.samples + 1))
  let sampled := (r.setTime { r.time with samples := s.time.samples + 1 }).setSupply (s.supply.sample mv)
  if sampled.supply.level = s.supply.level then sampled else s.levelChanged sampled

/-- SUPPLY_SAMPLE (R122–R126). -/
def execSupplySample (mv : Nat) (s : State) : Outcome :=
  takeInside s fun x => x.takeSample mv

end Sys2Proof.Machine
end

