-- ==== Sys2Proof/Machine/Dispatch.lean ====
section
/-!
DEFINITION. The effect of a command on everything but the queue: one arm per constructor, in the table's order.
-/

namespace Sys2Proof.Machine

def exec (i : Instr) (s : State) : Host.Outcome State Fault Refusal :=
  match i with
  | .peek dt l kind bytes => Sys2Proof.Machine.execPeek dt l kind bytes s
  | .send dt l bytes => Sys2Proof.Machine.execSend dt l bytes s
  | .fetch dt l bytes => Sys2Proof.Machine.execFetch dt l bytes s
  | .linkReset dt l bytes => Sys2Proof.Machine.execLinkReset dt l bytes s
  | .unknownRequest l => Sys2Proof.Machine.execUnknownRequest l s
  | .attach l => Sys2Proof.Machine.execAttach l s
  | .detachWithdrawAll l => Sys2Proof.Machine.execDetachWithdrawAll l s
  | .detachLeave l => Sys2Proof.Machine.execDetachLeave l s
  | .ping l => Sys2Proof.Machine.execPing l s
  | .setAttention l => Sys2Proof.Machine.execSetAttention l s
  | .collect l => Sys2Proof.Machine.execCollect l s
  | .permitGrant l => Sys2Proof.Machine.execPermitGrant l s
  | .permitWithdraw l => Sys2Proof.Machine.execPermitWithdraw l s
  | .takeover l => Sys2Proof.Machine.execTakeover l s
  | .takeoverComplete => Sys2Proof.Machine.execTakeoverComplete s
  | .yieldRole l => Sys2Proof.Machine.execYield l s
  | .claimOrphan l => Sys2Proof.Machine.execClaimOrphan l s
  | .post l => Sys2Proof.Machine.execPost l s
  | .amend l => Sys2Proof.Machine.execAmend l s
  | .clear l => Sys2Proof.Machine.execClear l s
  | .reassert l => Sys2Proof.Machine.execReassert l s
  | .withdraw l => Sys2Proof.Machine.execWithdraw l s
  | .find l => Sys2Proof.Machine.execFind l s
  | .query l => Sys2Proof.Machine.execQuery l s
  | .listGroup l => Sys2Proof.Machine.execListGroup l s
  | .panelStatus l => Sys2Proof.Machine.execPanelStatus l s
  | .readMap l => Sys2Proof.Machine.execReadMap l s
  | .acknowledgeHandles l => Sys2Proof.Machine.execAcknowledgeHandles l s
  | .acknowledgeAllVisible l => Sys2Proof.Machine.execAcknowledgeAllVisible l s
  | .remoteResetHandles l => Sys2Proof.Machine.execRemoteResetHandles l s
  | .remoteResetAllVisible l => Sys2Proof.Machine.execRemoteResetAllVisible l s
  | .silence l => Sys2Proof.Machine.execSilence l s
  | .retire l => Sys2Proof.Machine.execRetire l s
  | .stageMap l => Sys2Proof.Machine.execStageMap l s
  | .commitMap l => Sys2Proof.Machine.execCommitMap l s
  | .abortMap l => Sys2Proof.Machine.execAbortMap l s
  | .lampTest l => Sys2Proof.Machine.execLampTest l s
  | .configure l => Sys2Proof.Machine.execConfigure l s
  | .restart l => Sys2Proof.Machine.execRestart l s
  | .ackKeyPress => Sys2Proof.Machine.execAckKeyPress s
  | .silenceKeyPress => Sys2Proof.Machine.execSilenceKeyPress s
  | .resetKeyPress => Sys2Proof.Machine.execResetKeyPress s
  | .testKeyPress => Sys2Proof.Machine.execTestKeyPress s
  | .testKeyRelease => Sys2Proof.Machine.execTestKeyRelease s
  | .ackKeyRelease => Sys2Proof.Machine.execAckKeyRelease s
  | .resetKeyRelease => Sys2Proof.Machine.execResetKeyRelease s
  | .silenceKeyRelease => Sys2Proof.Machine.execSilenceKeyRelease s
  | .chordFire => Sys2Proof.Machine.execChordFire s
  | .tick => Sys2Proof.Machine.execTick s
  | .expire slot => Sys2Proof.Machine.execExpire slot s
  | .keepaliveExpiry l => Sys2Proof.Machine.execKeepaliveExpiry l s
  | .frameStart => Sys2Proof.Machine.execFrameStart s
  | .commitCompletion => Sys2Proof.Machine.execCommitCompletion s
  | .lampTestEnd => Sys2Proof.Machine.execLampTestEnd s
  | .supplySample mv => Sys2Proof.Machine.execSupplySample mv s
  | .hornPhaseEnd => Sys2Proof.Machine.execHornPhaseEnd s
  | .deviceReset => Sys2Proof.Machine.execDeviceReset s
  | .resetRelease => Sys2Proof.Machine.execResetRelease s
  | .keyInputChange dt k c => Sys2Proof.Machine.execKeyInputChange dt k c s

end Sys2Proof.Machine
end

