-- ==== Sys2Proof/Safety.lean ====
section
/-!
DEFINITION. The terms that claims are stated in: when a command is taken at once, how a request is asked and answered,
what an event leaves of a slot it does not touch, and the seven invariants that every step keeps.
-/

namespace Sys2Proof.Machine

/-! ### Taking a command -/

/-- The part is out of device reset and no takeover is to be completed before the next command (R164; assumption 6). -/
def State.ready (s : State) : Prop := s.held = false ∧ s.sessions.takeoverDue = none

/-- The request executes in the link's slot and does not wait for a commit (R136, R139). -/
def State.asks (s : State) (l : Link) (r : Request) : Prop :=
  s.ready ∧ s.sessions.waiting ≠ some l ∧ (s.port l).slot = .executing r

/-- The two ports once a request is answered: its response stands in its link's slot and is retained with the code; the
flags and the other link's port stand as they were (R138). -/
def State.portsAnswering (s : State) (l : Link) (r : Request) (res : Result) (payload : List Byte) : PerLink Port :=
  s.ports.set l
    { s.port l with
      slot := .answered { seq := r.seq, result := res, payload }
      retained := some { code := r.code, response := { seq := r.seq, result := res, payload } } }

/-- A refusal: the request is answered with the result and no payload, and nothing else changes (R181). -/
def State.refusing (s : State) (l : Link) (r : Request) (res : Result) : State :=
  { s with ports := s.portsAnswering l r res [] }

/-- A link in session that may send the requests of the primary (R181 steps 2 and 3). -/
def State.commands (s : State) (l : Link) : Prop := s.inSession l = true ∧ s.sessions.primary = some l

/-- A request row of the table: the link in whose slot its request stands, and the requests it executes (R184;
assumption 4). Any other command is no request row. -/
def requestRow : Instr → Option (Link × (Request → Bool))
  | .unknownRequest l => some (l, namesNoRequest)
  | .attach l => some (l, hasCode codeAttach)
  | .detachWithdrawAll l => some (l, isDetachWithdrawAll)
  | .detachLeave l => some (l, isDetachLeave)
  | .ping l => some (l, hasCode codePing)
  | .setAttention l => some (l, hasCode codeSetAttention)
  | .collect l => some (l, hasCode codeCollect)
  | .permitGrant l => some (l, isPermitGrant)
  | .permitWithdraw l => some (l, isPermitWithdraw)
  | .takeover l => some (l, hasCode codeTakeover)
  | .yieldRole l => some (l, hasCode codeYield)
  | .claimOrphan l => some (l, hasCode codeClaimOrphan)
  | .post l => some (l, hasCode codePost)
  | .amend l => some (l, hasCode codeAmend)
  | .clear l => some (l, hasCode codeClear)
  | .reassert l => some (l, hasCode codeReassert)
  | .withdraw l => some (l, hasCode codeWithdraw)
  | .find l => some (l, hasCode codeFind)
  | .query l => some (l, hasCode codeQuery)
  | .listGroup l => some (l, hasCode codeListGroup)
  | .panelStatus l => some (l, hasCode codePanelStatus)
  | .readMap l => some (l, hasCode codeReadMap)
  | .acknowledgeHandles l => some (l, isHandlesMode codeAcknowledge)
  | .acknowledgeAllVisible l => some (l, isAllVisibleMode codeAcknowledge)
  | .remoteResetHandles l => some (l, isHandlesMode codeRemoteReset)
  | .remoteResetAllVisible l => some (l, isAllVisibleMode codeRemoteReset)
  | .silence l => some (l, hasCode codeSilence)
  | .retire l => some (l, hasCode codeRetire)
  | .stageMap l => some (l, hasCode codeStageMap)
  | .commitMap l => some (l, hasCode codeCommitMap)
  | .abortMap l => some (l, hasCode codeAbortMap)
  | .lampTest l => some (l, hasCode codeLampTest)
  | .configure l => some (l, hasCode codeConfigure)
  | .restart l => some (l, hasCode codeRestart)
  | _ => none

/-- The request rows that the primary alone may send (R181 step 3). -/
def primaryRow : Instr → Bool
  | .permitGrant _ => true
  | .permitWithdraw _ => true
  | .yieldRole _ => true
  | .claimOrphan _ => true
  | .acknowledgeHandles _ => true
  | .acknowledgeAllVisible _ => true
  | .remoteResetHandles _ => true
  | .remoteResetAllVisible _ => true
  | .silence _ => true
  | .retire _ => true
  | .stageMap _ => true
  | .commitMap _ => true
  | .abortMap _ => true
  | .lampTest _ => true
  | .configure _ => true
  | .restart _ => true
  | _ => false

/-- The role check of R181 step 3 passes: the caller is the primary where the request asks for it, a LAMP_TEST is below
CRITICAL, a TAKEOVER of a standby has the permit or finds no primary, and the staged map is read by the primary alone. -/
structure RoleAdmits (s : State) (c : Instr) (l : Link) (r : Request) : Prop where
  primary : primaryRow c = true → s.sessions.primary = some l
  lampTest : c = .lampTest l → s.supply.level ≠ .critical
  takeover : c = .takeover l →
    (s.session l).state = .primary ∨ s.sessions.primary = none ∨ s.sessions.permit = some l
  readMap : c = .readMap l → ∀ g, r.payload = [g, 1#8] → s.sessions.primary = some l

/-- A payload has the length and the fields that its request row takes (R181 step 4, R185). -/
def wellFormedFor (c : Instr) (payload : List Byte) : Bool :=
  match c with
  | .attach _ => (parseAttach payload).isSome
  | .detachWithdrawAll _ => (parseDetach payload).isSome
  | .detachLeave _ => (parseDetach payload).isSome
  | .setAttention _ => (parseMask payload).isSome
  | .permitGrant _ => (parsePermit payload).isSome
  | .permitWithdraw _ => (parsePermit payload).isSome
  | .claimOrphan _ => (parseClaim payload).isSome
  | .post _ => (parsePost payload).isSome
  | .amend _ => (parseAmend payload).isSome
  | .clear _ => (parseHandle payload).isSome
  | .reassert _ => (parseHandle payload).isSome
  | .withdraw _ => (parseHandle payload).isSome
  | .query _ => (parseHandle payload).isSome
  | .retire _ => (parseHandle payload).isSome
  | .find _ => (parseFind payload).isSome
  | .listGroup _ => (parseListGroup payload).isSome
  | .readMap _ => (parseReadMap payload).isSome
  | .acknowledgeHandles _ => (parseTargets payload).isSome
  | .acknowledgeAllVisible _ => (parseTargets payload).isSome
  | .remoteResetHandles _ => (parseTargets payload).isSome
  | .remoteResetAllVisible _ => (parseTargets payload).isSome
  | .stageMap _ => (parseStage payload).isSome
  | .lampTest _ => (parseLampTest payload).isSome
  | .configure _ => (parseConfigure payload).isSome
  | _ => payload.isEmpty

/-- The handle that a well-formed request of one handle carries (R181 step 5). -/
def namedHandle (c : Instr) (payload : List Byte) : Option Handle :=
  match c with
  | .claimOrphan _ => (parseClaim payload).map (·.handle)
  | .amend _ => (parseAmend payload).map (·.handle)
  | .clear _ => parseHandle payload
  | .reassert _ => parseHandle payload
  | .withdraw _ => parseHandle payload
  | .query _ => parseHandle payload
  | .retire _ => parseHandle payload
  | _ => none

/-- The request rows that a record's owner alone may send (R181 step 6). -/
def ownerRow : Instr → Bool
  | .amend _ => true
  | .clear _ => true
  | .reassert _ => true
  | .withdraw _ => true
  | _ => false

/-- The record that a handle names: LIVE in its slot, at its generation, which is not 0 (R3). -/
def State.names (s : State) (h : Handle) (q : Record) : Prop :=
  h.gen ≠ 0#8 ∧ (s.slot h.slot).gen = h.gen ∧ s.record h.slot = some q

/-! ### What an event makes of a slot -/

/-- A slot of a group that is re-decided between two states, `x` being what the event itself makes of it: the silenced
flag is cleared if the record surfaces, and nothing else changes (R58). -/
def surfacedSlot (s t : State) (g : Group) (j : SlotIx) (x : Slot) : Slot :=
  match x.content with
  | .live r =>
    if t.visibleSlot g = some j ∧ s.visibleSlot g ≠ some j ∧ r.state.unacknowledged = true then
      { x with content := .live { r with silenced := false } }
    else x
  | _ => x

/-- A slot when all 24 groups are re-decided between two states: judged in its own record's group (R57, R58). -/
def State.redecidedSlot (s t : State) (j : SlotIx) : Slot :=
  match s.record j with
  | some r => surfacedSlot s t r.group j (s.slot j)
  | none => s.slot j

/-- Slot `j` after several events taken in turn from `s` to `t`, `x` being what they themselves make of it and `touched`
the slots of the records they move or retire. Beyond `x` nothing but the silenced flag may change, and it is cleared: of no
record but one that was unacknowledged and hidden, in a group that they touch; and of every unacknowledged record that was
hidden and is visible in the end (R58, R59). -/
def State.surfacedInTurn (s t : State) (touched : List SlotIx) (j : SlotIx) (x : Slot) : Prop :=
  match x.content, s.record j with
  | .live r, some q =>
    let cleared : Slot := { x with content := .live { r with silenced := false } }
    (t.slot j = x ∨ t.slot j = cleared) ∧
    (t.slot j ≠ x → q.state.unacknowledged = true ∧ s.visibleSlot q.group ≠ some j ∧
      ∃ i ∈ touched, ∃ p, s.record i = some p ∧ p.group = q.group) ∧
    (t.visibleSlot r.group = some j → s.visibleSlot r.group ≠ some j → r.state.unacknowledged = true →
      t.slot j = cleared)
  | _, _ => t.slot j = x

/-- A slot freed: its generation stays (R2). -/
def Slot.freed (x : Slot) : Slot := { x with content := .free }

/-- A retirement frees the slot: the record is an orphan, or its owner is the cause (R14). -/
def Record.freedBy (r : Record) (cause : Cause) : Bool :=
  match r.owner with
  | none => true
  | some o => decide (cause = .link o)

/-- What a retirement makes of a slot (R10, R14). -/
def State.retiredSlot (s : State) (cause : Cause) (reason : Reason) (i : SlotIx) : Slot :=
  match s.record i with
  | none => s.slot i
  | some r =>
    match r.owner with
    | none => (s.slot i).freed
    | some o =>
      if r.freedBy cause then (s.slot i).freed
      else { s.slot i with content := .tombstone { owner := o, key := r.key, reason, stateAt := r.state } }

/-- The changed set of link `m` after a retirement (R15, R16). -/
def State.retiredChanged (s : State) (cause : Cause) (i : SlotIx) (m : Link) : List SlotIx :=
  match s.record i with
  | none => (s.session m).changed
  | some r =>
    if r.freedBy cause then (s.session m).changed.filter (· ≠ i)
    else if r.owner = some m then joinSlot i (s.session m).changed
    else (s.session m).changed

/-- What an event of R29 that moves a record makes of its lifetime: a CLEAR stops it with its count kept, an EXPIRE with the
count 0, a REASSERT restarts it, and ACK and RESET leave it as it was (R39, R40; assumption 15). -/
def lifetimeAfter (ev : RecordEvent) (startIn : Nat) (x : Lifetime) : Lifetime :=
  match ev with
  | .clear => { x with due := false }
  | .expire => { x with remaining := 0, due := false }
  | .ack => x
  | .reset => x
  | .reassert => { x with remaining := x.period, startIn, due := false }

/-- What an event of R29 makes of a slot. -/
def State.eventSlot (s : State) (ev : RecordEvent) (cause : Cause) (i : SlotIx) : Slot :=
  match s.record i with
  | none => s.slot i
  | some r =>
    match annunciate ev r.latch r.state with
    | .retired => s.retiredSlot cause ev.reason i
    | .moved st =>
      { s.slot i with
        content := .live { r with
          state := st
          silenced := if ev = .reassert then false else r.silenced
          lifetime := r.lifetime.map (lifetimeAfter ev s.startIn) } }
    | .noEffect => s.slot i
    | .wrongState => s.slot i

/-- The changed set of link `m` after an event of R29 (R35). -/
def State.eventChanged (s : State) (ev : RecordEvent) (cause : Cause) (i : SlotIx) (m : Link) : List SlotIx :=
  match s.record i with
  | none => (s.session m).changed
  | some r =>
    match annunciate ev r.latch r.state with
    | .retired => s.retiredChanged cause i m
    | .moved _ =>
      if r.owner = some m ∧ cause ≠ .link m then joinSlot i (s.session m).changed else (s.session m).changed
    | .noEffect => (s.session m).changed
    | .wrongState => (s.session m).changed

/-- An event of R29 retires the record in a slot. -/
def State.retires (s : State) (ev : RecordEvent) (i : SlotIx) : Bool :=
  match s.record i with
  | none => false
  | some r => decide (annunciate ev r.latch r.state = .retired)

/-- The low-table flag after slots have been freed (R13). -/
def lowAfterFreeing (s t : State) : Bool :=
  s.table.low && !(decide (s.table.freeCount ≤ 4) && decide (5 ≤ t.table.freeCount))

/-- The roles of the panel stand. -/
def State.sameRoles (s t : State) : Prop :=
  t.sessions.primary = s.sessions.primary ∧ t.sessions.permit = s.sessions.permit ∧
    t.sessions.waiting = s.sessions.waiting ∧ t.sessions.takeoverDue = s.sessions.takeoverDue

/-- The Horn Driver in `t`, come from `s` by a re-decision: a horn state left as it was keeps its phase running; a tone
entered begins an on-phase at that moment; in OFF there is no phase (R115–R117; the phase end in OFF is assumption 11). -/
def State.hornAfter (s t : State) : HornDriver :=
  if t.decideHorn = s.horn.state then { s.horn with enable := t.horn.enable }
  else
    match t.decideHorn with
    | .off => { state := .off, sounding := false, phaseEnd := 0, enable := t.horn.enable }
    | .alarmTone =>
      { state := .alarmTone, sounding := true, phaseEnd := t.time.clock + 250000, enable := t.horn.enable }
    | .warningTone =>
      { state := .warningTone, sounding := true, phaseEnd := t.time.clock + 1000000, enable := t.horn.enable }

/-- The blocks that an event on the table's records never touches stand, and the horn is re-decided. -/
def State.sameBut (s t : State) : Prop :=
  t.held = s.held ∧ t.time = s.time ∧ t.map = s.map ∧ t.panel = s.panel ∧ t.keys = s.keys ∧ t.supply = s.supply ∧
    t.pending = s.pending ∧ t.horn.enable = s.horn.enable ∧ t.horn = s.hornAfter t

/-- One event of R29 applied to the record `r` in slot `i`, and nothing else done but what R37 hands on. -/
structure Applied (s t : State) (ev : RecordEvent) (cause : Cause) (i : SlotIx) (r : Record) : Prop where
  slots : ∀ j, t.slot j = surfacedSlot s t r.group j (if j = i then s.eventSlot ev cause i else s.slot j)
  arrival : t.table.arrival =
    if s.retires ev i = true then s.table.arrival.filter (· ≠ i)
    else if ev = .reassert ∧ annunciate ev r.latch r.state ≠ .wrongState then s.table.arrival.filter (· ≠ i) ++ [i]
    else s.table.arrival
  low : t.table.low = lowAfterFreeing s t
  sessions : ∀ m, t.session m = { s.session m with changed := s.eventChanged ev cause i m }
  roles : s.sameRoles t
  rest : s.sameBut t

/-- One retirement of the record `r` in slot `i` outside the sequence, and nothing else done but what R15 hands on. -/
structure Retired (s t : State) (cause : Cause) (reason : Reason) (i : SlotIx) (r : Record) : Prop where
  slots : ∀ j, t.slot j = surfacedSlot s t r.group j (if j = i then s.retiredSlot cause reason i else s.slot j)
  arrival : t.table.arrival = s.table.arrival.filter (· ≠ i)
  low : t.table.low = lowAfterFreeing s t
  sessions : ∀ m, t.session m = { s.session m with changed := s.retiredChanged cause i m }
  roles : s.sameRoles t
  rest : s.sameBut t

/-- One event of R29, ACK or RESET, delivered to each of several records in turn (R28). -/
structure Delivered (s t : State) (ev : RecordEvent) (cause : Cause) (targets : List SlotIx) : Prop where
  slots : ∀ j, s.surfacedInTurn t (targets.filter (s.answersTo ev)) j
    (if j ∈ targets then s.eventSlot ev cause j else s.slot j)
  arrival : t.table.arrival = s.table.arrival.filter fun j => !(decide (j ∈ targets) && s.retires ev j)
  low : t.table.low = lowAfterFreeing s t
  sessions : ∀ m, t.session m = { s.session m with changed := (t.session m).changed }
  changed : ∀ m j, j ∈ (t.session m).changed ↔
    j ∈ (if j ∈ targets then s.eventChanged ev cause j m else (s.session m).changed)
  roles : s.sameRoles t
  rest : s.sameBut t

/-! ### Links, keys, lamp test and supply -/

/-- The keepalive of a link in session restarts at a taken SEND; out of session nothing changes (R143, R151). -/
def State.restartedSession (s : State) (l : Link) : LinkSession :=
  if s.inSession l then
    { s.session l with
      keepalive := (s.session l).keepalive.map fun k => { k with count := k.interval, startIn := s.startIn } }
  else s.session l

/-- Silencing sets the silenced flag of every visible unacknowledged record and of no other, and changes nothing else but
the horn, which is decided again (R106, R114). -/
def Silenced (s t : State) : Prop :=
  (∀ j, t.slot j =
    match (s.slot j).content with
    | .live r =>
      if s.visibleSlot r.group = some j ∧ r.state.unacknowledged = true then
        { s.slot j with content := .live { r with silenced := true } }
      else s.slot j
    | _ => s.slot j) ∧
  t.table.arrival = s.table.arrival ∧ t.table.low = s.table.low ∧ t.sessions = s.sessions ∧ s.sameBut t

/-- The primary's set after a LAMP notice, if there is a primary and it is in session (R98, R168). -/
def State.lampTold (s : State) (v : LampNotice) : SessionUnit :=
  match s.sessions.primary with
  | some p =>
    if s.inSession p then
      { s.sessions with
        links := s.sessions.links.set p
          { s.session p with notices := { (s.session p).notices with lamp := some v } } }
    else s.sessions
  | none => s.sessions

/-- The part at the moment a key's 20 ms have run since `began`, with the key's debounced state `c` (R100). -/
def State.recognisedAt (s : State) (k : KeyId) (c : Contact) (began : Nat) : State :=
  { s with
    time := { s.time with clock := max s.time.clock (began + 20000) }
    keys := { s.keys with debounced := s.keys.debounced.set k c, timing := s.keys.timing.set k none } }

/-- The chord timer after a press of ACK or RESET while `other` is the other of the two (R111). -/
def State.chordPressed (s : State) (other : KeyId) : State :=
  if s.keys.chord = .idle ∧ s.keys.debounced.get other = .closed ∧ s.keys.chordEnable = true then
    { s with keys := { s.keys with chord := .timing (s.time.clock + 4000000) } }
  else s

/-- The effective mode of a key is LOCAL (R102). -/
def State.actsLocally (s : State) (k : KeyId) : Prop :=
  s.sessions.primary = none ∨ s.keys.modes.get k = .isLocal

/-- The effective mode of a key is REMOTE, or the key is ACK or RESET and a lamp test runs (R104). -/
def State.isReported (s : State) (k : KeyId) : Prop :=
  ¬s.actsLocally k ∨ ((k = .ack ∨ k = .reset) ∧ s.panel.lamp.running = true)

/-- The supply level and recovery count after a sample, by the thresholds of R122 (R123, R124), met exactly
(assumption 23). -/
def SupplyMonitor.levelAfter (m : SupplyMonitor) (mv : Nat) : Level × Fin 2 :=
  match m.level with
  | .normal => if mv < 4150 then (.critical, 0) else if mv < 4400 then (.low, 0) else (.normal, 0)
  | .low =>
    if mv < 4150 then (.critical, 0)
    else if 4500 < mv then (if m.recovery = 1 then (.normal, 0) else (.low, 1))
    else (.low, 0)
  | .critical => if 4250 < mv then (if m.recovery = 1 then (.low, 0) else (.critical, 1)) else (.critical, 0)

/-! ### Departures (R153–R157, R160, R166) -/

/-- The other link adopts a record of the departing link `l` (R156). -/
def State.adopts (s : State) (l : Link) (r : Record) : Bool :=
  r.policy == .adopt && s.inSession l.other && (s.table.findKey l.other r.key).isNone

/-- What the departure of `l` makes of a slot; `all` is DETACH in mode WITHDRAW_ALL. -/
def State.departedSlot (s : State) (l : Link) (all : Bool) (i : SlotIx) : Slot :=
  match (s.slot i).content with
  | .free => s.slot i
  | .tombstone t => if t.owner = l then (s.slot i).freed else s.slot i
  | .live r =>
    if r.owner ≠ some l then s.slot i
    else if all = true ∨ r.policy = .drop then (s.slot i).freed
    else { s.slot i with content := .live { r with owner := if s.adopts l r then some l.other else none } }

/-- The departure of `l` frees the slot of a LIVE record. -/
def State.departureFrees (s : State) (l : Link) (all : Bool) (i : SlotIx) : Bool :=
  (s.slot i).isLive && (s.departedSlot l all i).isFree

/-- The slots of the LIVE records of `l` that satisfy `p`. -/
def State.ownedSlots (s : State) (l : Link) (p : Record → Bool) : List SlotIx :=
  allSlots.filter fun i => (s.record i).any fun r => r.owner == some l && p r

/-- The other link becomes PRIMARY at the departure of `l` (R160). -/
def State.promotes (s : State) (l : Link) : Bool :=
  s.sessions.primary == some l && (s.session l.other).state == .standby &&
    ((s.session l.other).failover || s.sessions.waiting == some l.other)

/-- An ADOPT record of `l` meets a key of the other link (R156). -/
def State.collides (s : State) (l : Link) : Bool :=
  !(s.ownedSlots l fun r => r.policy == .adopt && (s.table.findKey l.other r.key).isSome).isEmpty

/-- The notices of the other link after the departure of `l` (R154 stage 6). -/
def State.heirNotices (s t : State) (l : Link) (all : Bool) (peer : PeerNotice) : NoticeSet :=
  let n := (s.session l.other).notices
  if s.inSession l.other then
    { n with
      role :=
        if s.promotes l then some .gained else if s.sessions.primary = some l then some .vacant else n.role
      map := if s.promotes l = true ∧ s.map.commit = .pending then some .abandoned else n.map
      peer := some peer
      adoption :=
        if all = false ∧ s.ownedSlots l (·.policy == .adopt) ≠ [] then
          some (if s.collides l then .conflict else .adopted)
        else n.adoption
      orphans :=
        n.orphans ||
          (s.table.orphanCount == 0 && t.table.orphanCount != 0 && t.sessions.primary == some l.other) }
  else n

/-- The port of the other link after the departure of `l`: a TAKEOVER that waited is answered OK (R160). -/
def State.heirPort (s : State) (l : Link) : Port :=
  match (s.port l.other).slot with
  | .executing q =>
    if s.promotes l = true ∧ s.sessions.waiting = some l.other then (s.portsAnswering l.other q .ok []).get l.other
    else s.port l.other
  | _ => s.port l.other

/-- The departure of `l` into OFFLINE or LOST, whole, but for its own port (R154). -/
structure Departed (s t : State) (l : Link) (all : Bool) (into : SessionState) (peer : PeerNotice) : Prop where
  slots : ∀ i, s.surfacedInTurn t (allSlots.filter (s.departureFrees l all)) i (s.departedSlot l all i)
  arrival : t.table.arrival = s.table.arrival.filter fun i => !s.departureFrees l all i
  low : t.table.low = lowAfterFreeing s t
  gone : t.session l = .out into
  heir : t.session l.other =
    { s.session l.other with
      state := if s.promotes l then .primary else (s.session l.other).state
      notices := s.heirNotices t l all peer
      changed := (t.session l.other).changed }
  changed : ∀ i, i ∈ (t.session l.other).changed ↔
    i ∈ (s.session l.other).changed ∨ (all = false ∧ i ∈ s.ownedSlots l (s.adopts l))
  primary : t.sessions.primary =
    if s.promotes l then some l.other else if s.sessions.primary = some l then none else s.sessions.primary
  permit : t.sessions.permit =
    if s.sessions.primary = some l ∨ s.sessions.permit = some l then none else s.sessions.permit
  waiting : t.sessions.waiting =
    if s.sessions.waiting = some l ∨ s.promotes l = true then none else s.sessions.waiting
  due : t.sessions.takeoverDue = s.sessions.takeoverDue
  map : t.map =
    if s.sessions.primary = some l then
      { active := s.map.active, staged := s.map.active, commit := .idle }
    else s.map
  heirPort : t.port l.other = s.heirPort l
  horn : t.horn = s.hornAfter t ∧ t.horn.enable = s.horn.enable
  rest : t.held = s.held ∧ t.panel = s.panel ∧ t.keys = s.keys ∧ t.supply = s.supply ∧ t.pending = s.pending

/-! ### The invariants -/

/-- The session and role state (R147, R159, R164). -/
structure RolesSound (s : State) : Prop where
  primary : ∀ l, (s.session l).state = .primary ↔ s.sessions.primary = some l
  permit : ∀ l, s.sessions.permit = some l → (s.session l).state = .standby ∧ s.sessions.primary = some l.other
  waiting : ∀ l, s.sessions.waiting = some l → s.sessions.permit = some l ∧ s.map.commit = .pending
  due : ∀ l, s.sessions.takeoverDue = some l → s.sessions.permit = some l ∧ s.sessions.waiting = none
  executing : ∀ l, s.sessions.waiting = some l ∨ s.sessions.takeoverDue = some l → (s.port l).slot.isExecuting = true
  vacant : s.sessions.primary = none → s.map.commit = .idle ∧ s.map.staged = s.map.active
  keepalive : ∀ l, s.inSession l = true → ∃ k, (s.session l).keepalive = some k ∧ 1 ≤ k.interval ∧ k.interval ≤ 255 ∧
    k.count ≤ k.interval ∧ k.startIn ≤ 2

/-- The table's own bookkeeping (R2, R9, R12, R13). -/
structure TableSound (s : State) : Prop where
  nodup : s.table.arrival.Nodup
  live : ∀ i, i ∈ s.table.arrival ↔ (s.slot i).isLive = true
  gen : ∀ i, (s.slot i).isFree = false → (s.slot i).gen ≠ 0#8
  low : s.table.low = true ↔ s.table.freeCount ≤ 4
  reserve : (allSlots.filter fun i => (s.record i).any fun r => r.cls != .alarm).length ≤ 60

/-- What R5, R7, R8 and R27 say of one LIVE record. A running count is at its period until its start, and at 1 while its
EXPIRE is due (assumption 15); a stopped lifetime owes none. -/
structure Record.Sound (r : Record) : Prop where
  key : r.key ≠ 0#16
  glyph : r.glyph ≠ 0#8
  alarm : r.cls = .alarm → r.latch ≠ .none
  steady : r.state = .steady ↔ r.latch = .none
  awaitReset : r.state = .awaitReset → r.latch = .ackReset
  lifetime : ∀ x, r.lifetime = some x → 1 ≤ x.period ∧ x.period ≤ 65535 ∧ x.remaining ≤ x.period ∧ x.startIn ≤ 2 ∧
    (x.startIn ≠ 0 → x.remaining = x.period)
  running : ∀ x, r.lifetime = some x → r.state = .steady ∨ r.state = .new ∨ r.state = .acked → 1 ≤ x.remaining
  due : ∀ x, r.lifetime = some x → x.due = true →
    (r.state = .steady ∨ r.state = .new ∨ r.state = .acked) ∧ x.startIn = 0 ∧ x.remaining = 1

/-- Every LIVE record is one that R5 and R27 allow. -/
def RecordsSound (s : State) : Prop := ∀ i r, s.record i = some r → r.Sound

/-- Owners, keys, tombstones and changed sets (R4, R154, R170). -/
structure OwnershipSound (s : State) : Prop where
  out : ∀ l, s.inSession l = false → s.session l = .out (s.session l).state
  owned : ∀ i r l, s.record i = some r → r.owner = some l → s.inSession l = true
  tombstone : ∀ i t, (s.slot i).content = .tombstone t → s.inSession t.owner = true ∧ i ∈ (s.session t.owner).changed
  changed : ∀ l i, i ∈ (s.session l).changed →
    (∃ r, s.record i = some r ∧ r.owner = some l) ∨ ∃ t, (s.slot i).content = .tombstone t ∧ t.owner = l
  ascending : ∀ l, (s.session l).changed.Pairwise (· < ·)
  keys : ∀ i j r q l, s.record i = some r → s.record j = some q → r.owner = some l → q.owner = some l → r.key = q.key →
    i = j

/-- The horn state is the one R115 decides, and in OFF the outputs stay low (R117). -/
structure HornSound (s : State) : Prop where
  decided : s.horn.state = s.decideHorn
  off : s.horn.state = .off → s.horn.sounding = false

/-- Lamp test, supply and keys (R90, R100, R101, R111, R124). -/
structure PanelSound (s : State) : Prop where
  idle : s.panel.lamp.running = false → s.panel.lamp = { running := false, timedEnd := none, keyHold := false }
  running : s.panel.lamp.running = true → s.panel.lamp.timedEnd.isSome = true
  critical : s.supply.level = .critical → s.panel.lamp.running = false
  recovery : s.supply.level = .normal → s.supply.recovery = 0
  chord : s.keys.chord ≠ .idle →
    s.keys.debounced.ack = .closed ∧ s.keys.debounced.reset = .closed ∧ s.keys.chordEnable = true
  timing : s.held = false → ∀ k, (s.keys.timing.get k).isSome = true ↔ s.keys.pins.get k ≠ s.keys.debounced.get k
  held : s.held = true → ∀ k, s.keys.debounced.get k = .opened

/-- A map in which no drive point belongs to two groups (R68, R74). -/
def PointsDisjoint (m : Vector MapEntry 24) : Prop :=
  ∀ g h p, p ∈ (m.get g).points → p ∈ (m.get h).points → g = h

/-- The per-group limits of a map (R68). -/
def Limited (m : Vector MapEntry 24) : Prop :=
  ∀ g, (m.get g).points.Nodup ∧ (m.get g).points.length ≤ 8

/-- The two maps and the commit (R68, R71, R76). -/
structure MapSound (s : State) : Prop where
  active : Limited s.map.active ∧ PointsDisjoint s.map.active
  staged : Limited s.map.staged
  pending : s.map.commit = .pending → PointsDisjoint s.map.staged

end Sys2Proof.Machine
end

