-- ==== Sys2Proof/Certificates/Slice0/Obligations.lean ====
section
/-!
DEFINITION. The statements for the provers. `s.asks l r` says that the request `r` executes in the slot of link `l` of a
part that is out of reset; `s.ready` says the same of an event that no request carries. The predicates of
Sys2Proof/Safety.lean say what an event makes of each slot, changed set, notice set and block.
-/

open Sys2Proof Sys2Proof.Machine

/-! ### Steps and the order of checks -/

/-- One step executes the front command on the state with the queue's rest, and idles on an empty queue (the model's
choice: assumption 13). -/
def Obligations.StepRunsFrontCommand : Prop :=
  (∀ (c : Instr) (s : State), step { s with pending := c :: s.pending } = exec c s) ∧
    ∀ s : State, s.pending = [] → step s = .next s

/-- Every command completes and leaves the queue to the step (R138, R182). That a command naming an event that has not arisen
completes without effect is the model's choice (assumption 2): a request row whose request does not execute in its link's
slot, or waits for a commit; TAKEOVER_COMPLETE with none due; an expiry that is not due; a press or release whose debounce
is not timed, or of a key that stands so already; CHORD_FIRE while the timer is not TIMING; COMMIT_COMPLETION where the next
frame completes no commit; LAMP_TEST_END in IDLE or without a timed end; HORN_PHASE_END in OFF; RESET_RELEASE of a running
part. -/
def Obligations.EveryCommandCompletes : Prop :=
  (∀ (c : Instr) (s : State), ∃ t, exec c s = .next t ∧ t.pending = s.pending) ∧
  (∀ (c : Instr) (l : Link) (takes : Request → Bool) (s : State), requestRow c = some (l, takes) → s.ready →
    (∀ r, (s.port l).slot = .executing r → takes r = true → s.sessions.waiting = some l) → exec c s = .next s) ∧
  ∀ s : State, s.ready →
    let press (k : KeyId) : Instr :=
      match k with
      | .ack => .ackKeyPress
      | .silence => .silenceKeyPress
      | .reset => .resetKeyPress
      | .test => .testKeyPress
    let release (k : KeyId) : Instr :=
      match k with
      | .ack => .ackKeyRelease
      | .silence => .silenceKeyRelease
      | .reset => .resetKeyRelease
      | .test => .testKeyRelease
    exec .takeoverComplete s = .next s ∧ exec .resetRelease s = .next s ∧
    (∀ i, (∀ q, s.record i = some q → q.expiryDue = false) → exec (.expire i) s = .next s) ∧
    (∀ l, s.keepaliveDue l = false → exec (.keepaliveExpiry l) s = .next s) ∧
    (∀ k, s.keys.timing.get k = none ∨ s.keys.debounced.get k = .closed → exec (press k) s = .next s) ∧
    (∀ k, s.keys.timing.get k = none ∨ s.keys.debounced.get k = .opened → exec (release k) s = .next s) ∧
    ((∀ fires, s.keys.chord ≠ .timing fires) → exec .chordFire s = .next s) ∧
    (s.panel.frame ≠ 63 ∨ s.map.commit = .idle → exec .commitCompletion s = .next s) ∧
    (s.panel.lamp.running = false ∨ s.panel.lamp.timedEnd = none → exec .lampTestEnd s = .next s) ∧
    (s.horn.state = .off → exec .hornPhaseEnd s = .next s)

/-- While the part is held in device reset no event is recognised but the reset pin's and the movement of a key contact
(R101, R130, R146). -/
def Obligations.HeldPartTakesNoEvent : Prop :=
  ∀ (c : Instr) (s : State), s.held = true → c ≠ .deviceReset → c ≠ .resetRelease →
    (∀ dt k x, c ≠ .keyInputChange dt k x) → exec c s = .next s

/-- A code that names no request is answered UNKNOWN_REQUEST in every session state, and out of session every other
request but ATTACH is answered NO_SESSION; neither changes anything but the ports (R148, R181 steps 1 and 2). A code names a
request when it is one of the 29 of R184, and a row takes the requests of its code; of rows that share a code each takes its
own mode, and what names neither row is executed by either (the model's choice: assumption 4). -/
def Obligations.OutOfSessionRefused : Prop :=
  (∀ r : Request, namesNoRequest r = true ↔ r.code ∉
    [0x10#8, 0x11#8, 0x12#8, 0x13#8, 0x14#8, 0x20#8, 0x21#8, 0x22#8, 0x23#8, 0x30#8, 0x31#8, 0x32#8, 0x33#8, 0x34#8,
     0x40#8, 0x41#8, 0x42#8, 0x43#8, 0x44#8, 0x50#8, 0x51#8, 0x52#8, 0x53#8, 0x54#8, 0x55#8, 0x56#8, 0x57#8, 0x58#8,
     0x59#8]) ∧
  (∀ (c : Instr) (l : Link) (takes : Request → Bool) (r : Request), requestRow c = some (l, takes) →
    (takes r = true ↔
      match c with
      | .unknownRequest _ => namesNoRequest r = true
      | .attach _ => r.code = 0x10#8
      | .detachWithdrawAll _ => r.code = 0x11#8 ∧ r.payload ≠ [1#8]
      | .detachLeave _ => r.code = 0x11#8 ∧ r.payload ≠ [0#8]
      | .ping _ => r.code = 0x12#8
      | .setAttention _ => r.code = 0x13#8
      | .collect _ => r.code = 0x14#8
      | .permitGrant _ => r.code = 0x20#8 ∧ r.payload ≠ [2#8]
      | .permitWithdraw _ => r.code = 0x20#8 ∧ r.payload ≠ [1#8]
      | .takeover _ => r.code = 0x21#8
      | .yieldRole _ => r.code = 0x22#8
      | .claimOrphan _ => r.code = 0x23#8
      | .post _ => r.code = 0x30#8
      | .amend _ => r.code = 0x31#8
      | .clear _ => r.code = 0x32#8
      | .reassert _ => r.code = 0x33#8
      | .withdraw _ => r.code = 0x34#8
      | .find _ => r.code = 0x40#8
      | .query _ => r.code = 0x41#8
      | .listGroup _ => r.code = 0x42#8
      | .panelStatus _ => r.code = 0x43#8
      | .readMap _ => r.code = 0x44#8
      | .acknowledgeHandles _ => r.code = 0x50#8 ∧ r.payload.head? ≠ some 2#8
      | .acknowledgeAllVisible _ => r.code = 0x50#8 ∧ r.payload.head? ≠ some 1#8
      | .remoteResetHandles _ => r.code = 0x51#8 ∧ r.payload.head? ≠ some 2#8
      | .remoteResetAllVisible _ => r.code = 0x51#8 ∧ r.payload.head? ≠ some 1#8
      | .silence _ => r.code = 0x52#8
      | .retire _ => r.code = 0x53#8
      | .stageMap _ => r.code = 0x54#8
      | .commitMap _ => r.code = 0x55#8
      | .abortMap _ => r.code = 0x56#8
      | .lampTest _ => r.code = 0x57#8
      | .configure _ => r.code = 0x58#8
      | .restart _ => r.code = 0x59#8
      | _ => False)) ∧
  ∀ (c : Instr) (l : Link) (takes : Request → Bool) (s : State) (r : Request),
    requestRow c = some (l, takes) → s.asks l r → takes r = true →
    (c = .unknownRequest l → exec c s = .next (s.refusing l r .unknownRequest)) ∧
    (c ≠ .unknownRequest l → c ≠ .attach l → s.inSession l = false → exec c s = .next (s.refusing l r .noSession))

/-- A caller in session whose role does not permit the request is DENIED, whatever its payload (R181 step 3): a request
of the primary from a link that is not; a LAMP_TEST at CRITICAL (R94); a standby's TAKEOVER without the permit while a
primary exists (R163); READ_MAP of the staged map by another than the primary (R80). While a commit is PENDING, a
well-formed STAGE_MAP, COMMIT_MAP, RESTART or YIELD of the primary is answered BUSY (R71, R181 step 7). Past session and
role check, a payload that is not of the request's length and fields is answered BAD_REQUEST, ATTACH out of session and
in it alike (steps 4, R149); a handle that names no LIVE record STALE_HANDLE, in AMEND, CLEAR, REASSERT, WITHDRAW, QUERY,
RETIRE and CLAIM_ORPHAN (step 5, R3); AMEND, CLEAR, REASSERT or WITHDRAW of the other link's record or an orphan NOT_OWNER
(step 6). None changes anything but its port. -/
def Obligations.RoleAndBusyRefusals : Prop :=
  (∀ (c : Instr) (l : Link) (takes : Request → Bool) (s : State) (r : Request),
    requestRow c = some (l, takes) → primaryRow c = true → s.asks l r → takes r = true → s.inSession l = true →
    s.sessions.primary ≠ some l → exec c s = .next (s.refusing l r .denied)) ∧
  (∀ (l : Link) (s : State) (r : Request), s.asks l r → r.code = 0x57#8 → s.commands l → s.supply.level = .critical →
    exec (.lampTest l) s = .next (s.refusing l r .denied)) ∧
  (∀ (l : Link) (s : State) (r : Request), s.asks l r → r.code = 0x21#8 → (s.session l).state = .standby →
    s.sessions.primary ≠ none → s.sessions.permit ≠ some l →
    exec (.takeover l) s = .next (s.refusing l r .denied)) ∧
  (∀ (l : Link) (s : State) (r : Request) (g : Byte), s.asks l r → r.code = 0x44#8 → r.payload = [g, 1#8] →
    s.inSession l = true → s.sessions.primary ≠ some l → exec (.readMap l) s = .next (s.refusing l r .denied)) ∧
  (∀ (l : Link) (s : State) (r : Request), s.asks l r → s.commands l → s.map.commit = .pending →
    (r.code = 0x54#8 → (parseStage r.payload).isSome = true →
      exec (.stageMap l) s = .next (s.refusing l r .busy)) ∧
    (r.payload = [] →
      (r.code = 0x55#8 → exec (.commitMap l) s = .next (s.refusing l r .busy)) ∧
      (r.code = 0x59#8 → exec (.restart l) s = .next (s.refusing l r .busy)) ∧
      (r.code = 0x22#8 → exec (.yieldRole l) s = .next (s.refusing l r .busy)))) ∧
  (∀ (s : State) (h : Handle) (q : Record), s.table.resolve h = some q ↔ s.names h q) ∧
  ∀ (c : Instr) (l : Link) (takes : Request → Bool) (s : State) (r : Request),
    requestRow c = some (l, takes) → s.asks l r → takes r = true → c ≠ .unknownRequest l →
    (c ≠ .attach l → s.inSession l = true) → RoleAdmits s c l r →
    (wellFormedFor c r.payload = false → exec c s = .next (s.refusing l r .badRequest)) ∧
    ∀ h : Handle, namedHandle c r.payload = some h →
      ((∀ q, ¬s.names h q) → exec c s = .next (s.refusing l r .staleHandle)) ∧
      ∀ q, s.names h q → ownerRow c = true → q.owner ≠ some l → exec c s = .next (s.refusing l r .notOwner)

/-- A request that executes and is answered with anything but OK or ACCEPTED changes nothing: its response is placed and
retained, and every other part of the state stands (R181, R182). -/
def Obligations.RefusalChangesNothing : Prop :=
  ∀ (c : Instr) (l : Link) (takes : Request → Bool) (s t : State) (r : Request) (a : Response),
    requestRow c = some (l, takes) → s.asks l r → takes r = true → exec c s = .next t →
    (t.port l).slot = .answered a → a.result ≠ .ok → a.result ≠ .accepted →
    a.seq = r.seq ∧ t = { s with ports := s.portsAnswering l r a.result a.payload }

/-! ### Link transactions -/

/-- The status byte, bit by bit (R132, R183); the notice-kind mask of a set, bit by bit, CHANGES counting as told (R168,
R185); and ATTN, asserted while the link is in session and holds a kind of its mask, CHANGES while its changed set is not
empty (R171). A link is in session while it is STANDBY or PRIMARY (R147), and each link's port and session are its own. -/
def Obligations.StatusByteShowsFields : Prop :=
  (∀ s : State,
    s.port .a = s.ports.a ∧ s.port .b = s.ports.b ∧ s.session .a = s.sessions.links.a ∧
    s.session .b = s.sessions.links.b ∧
    (∀ p : Port, s.ports.set .a p = { s.ports with a := p } ∧ s.ports.set .b p = { s.ports with b := p }) ∧
    (∀ x : LinkSession, s.sessions.links.set .a x = { s.sessions.links with a := x } ∧
      s.sessions.links.set .b x = { s.sessions.links with b := x }) ∧
    (∀ l : Link, s.inSession l = true ↔ (s.session l).state = .standby ∨ (s.session l).state = .primary)) ∧
  (Link.a.other = .b ∧ Link.b.other = .a) ∧
  (∀ x : ReqSlot, (x.isAnswered = true ↔ ∃ a, x = .answered a) ∧ (x.isExecuting = true ↔ ∃ r, x = .executing r)) ∧
  (∀ (s : State) (l : Link),
    (s.statusByte l).getLsbD 7 = (s.port l).slot.isAnswered ∧
    (s.statusByte l).getLsbD 6 = (s.port l).slot.isExecuting ∧
    (s.statusByte l).getLsbD 5 = s.attn l ∧
    (s.statusByte l).getLsbD 4 = (s.port l).overrun ∧
    (s.statusByte l).getLsbD 3 = (s.port l).frameError ∧
    (s.statusByte l).extractLsb' 1 2 =
      (match (s.session l).state with
        | .offline => 0#2
        | .standby => 1#2
        | .primary => 2#2
        | .lost => 3#2) ∧
    (s.statusByte l).getLsbD 0 = decide (s.sessions.permit = some l)) ∧
  (∀ (n : NoticeSet) (changes : Bool) (k : Nat), (n.kinds changes).getLsbD k =
    ([changes, n.role.isSome, n.permit.isSome, n.peer.isSome, n.map.isSome, n.supply.isSome, n.orphans,
      n.key.ack || n.key.silence || n.key.reset || n.key.test, n.lamp.isSome, n.purge, n.adoption.isSome, n.restart,
      n.table][k]?).getD false) ∧
  ∀ (s : State) (l : Link), s.attn l = true ↔
    s.inSession l = true ∧ ∃ k : Nat, (s.session l).mask.getLsbD k = true ∧
      ((s.session l).notices.kinds (decide ((s.session l).changed ≠ []))).getLsbD k = true

/-- CRC-8 shifts each byte in, most significant bit first, over 0x07; request and response frames carry code or result,
sequence, length, payload and CRC (R142, R184). The frame check takes exactly a request frame of at most 56 payload bytes,
whatever follows its CRC: a length above 56, a frame cut short or a wrong CRC is malformed (R135). Every request payload
is read exactly as R185 lays it out (R18, R20, R44, R72, R94, R149, R180), and no other bytes are: POST is refused with a
zero glyph, a zero key, a reserve byte that is not 0, or an ALARM of latch NONE, and AMEND reads the selected fields alone.
The coded fields have the codes of R185. -/
def Obligations.FramesReadBack : Prop :=
  (crc8 [] = 0#8 ∧ ∀ (bs : List Byte) (b : Byte),
    let shift (c : Byte) : Byte := if c.getLsbD 7 then (c <<< 1) ^^^ 0x07#8 else c <<< 1
    crc8 (bs ++ [b]) = shift^[8] (crc8 bs ^^^ b)) ∧
  (∀ r : Request,
    let body := [r.code, r.seq, byteOf r.payload.length] ++ r.payload
    requestFrame r = body ++ [crc8 body]) ∧
  (∀ a : Response,
    let result : Byte :=
      match a.result with
      | .ok => 0x00#8
      | .accepted => 0x01#8
      | .pending => 0x02#8
      | .noResponse => 0x03#8
      | .unknownRequest => 0x10#8
      | .noSession => 0x11#8
      | .denied => 0x12#8
      | .badRequest => 0x13#8
      | .staleHandle => 0x14#8
      | .notOwner => 0x15#8
      | .busy => 0x16#8
      | .wrongState => 0x17#8
      | .tableFull => 0x18#8
      | .duplicateKey => 0x19#8
      | .mapConflict => 0x1A#8
      | .notFound => 0x1B#8
    let body := [a.seq, result, byteOf a.payload.length] ++ a.payload
    responseFrame a = body ++ [crc8 body]) ∧
  (∀ (r : Request) (bytes : List Byte),
    checkFrame bytes = some r ↔ r.payload.length ≤ 56 ∧ ∃ after, bytes = requestFrame r ++ after) ∧
  (∀ bytes : List Byte, bytes.length < 4 → checkFrame bytes = none) ∧
  (∀ (code seq len : Byte) (rest : List Byte),
    (56 < len.toNat ∨ rest.length ≤ len.toNat ∨
      ∃ c, rest[len.toNat]? = some c ∧ c ≠ crc8 ([code, seq, len] ++ rest.take len.toNat)) →
    checkFrame ([code, seq, len] ++ rest) = none) ∧
  (∀ (p : PostPayload) (z : Byte), p.period < 65536 →
    parsePost
      (bytes16 p.key ++
        [byteOf p.group.val, p.cls.code, byteOf p.priority.val, p.latch.code, p.horn.code, p.policy.code, p.glyph, z] ++
        bytes16 (BitVec.ofNat 16 p.period)) =
      if p.key = 0#16 ∨ p.glyph = 0#8 ∨ z ≠ 0#8 ∨ (p.cls = .alarm ∧ p.latch = .none) then none else some p) ∧
  (∀ b : List Byte,
    (∀ p, parsePost b = some p → p.period < 65536 ∧
      b = bytes16 p.key ++
        [byteOf p.group.val, p.cls.code, byteOf p.priority.val, p.latch.code, p.horn.code, p.policy.code, p.glyph, 0#8] ++
        bytes16 (BitVec.ofNat 16 p.period)) ∧
    (∀ p, parseAmend b = some p ↔ ∃ sel pr gl ho po lh ll : Byte,
      b = [byteOf p.handle.slot.val, p.handle.gen, sel, pr, gl, ho, po, lh, ll] ∧
      sel ≠ 0#8 ∧ sel &&& 0xE0#8 = 0#8 ∧
      (if sel.getLsbD 0 then ∃ x, p.priority = some x ∧ pr = byteOf x.val else p.priority = none) ∧
      (if sel.getLsbD 1 then gl ≠ 0#8 ∧ p.glyph = some gl else p.glyph = none) ∧
      (if sel.getLsbD 2 then ∃ x, p.horn = some x ∧ ho = x.code else p.horn = none) ∧
      (if sel.getLsbD 3 then ∃ x, p.policy = some x ∧ po = x.code else p.policy = none) ∧
      (if sel.getLsbD 4 then ∃ x : Word16, p.period = some x.toNat ∧ [lh, ll] = bytes16 x else p.period = none)) ∧
    (∀ p, parseStage b = some p ↔ p.entry.points.length ≤ 8 ∧ p.entry.points.Nodup ∧
      b = [byteOf p.group.val, p.entry.idle, byteOf p.entry.points.length] ++
        p.entry.points.map fun x => byteOf x.val) ∧
    (∀ p, parseConfigure b = some p ↔
      b = [flagByte p.hornEnable,
        (if p.modes.ack = .remote then 1#8 else 0#8) ||| (if p.modes.silence = .remote then 2#8 else 0#8) |||
          (if p.modes.reset = .remote then 4#8 else 0#8) ||| (if p.modes.test = .remote then 8#8 else 0#8),
        flagByte p.shedding, flagByte p.chordEnable]) ∧
    (∀ p, parseAttach b = some p ↔ 1 ≤ p.interval ∧ p.interval ≤ 255 ∧
      b = [flagByte p.wishPrimary, byteOf p.interval, flagByte p.failover]) ∧
    (∀ p, parseClaim b = some p ↔ p.key ≠ 0#16 ∧
      b = [byteOf p.handle.slot.val, p.handle.gen] ++ bytes16 p.key) ∧
    (∀ hs, parseTargets b = some (.handles hs) ↔ 1 ≤ hs.length ∧ hs.length ≤ 16 ∧ (hs.map Handle.slot).Nodup ∧
      b = [1#8, byteOf hs.length] ++ hs.flatMap fun h => [byteOf h.slot.val, h.gen]) ∧
    (parseTargets b = some .allVisible ↔ b = [2#8]) ∧
    (∀ all, parseDetach b = some all ↔ b = [if all then 0#8 else 1#8]) ∧
    (∀ grant, parsePermit b = some grant ↔ b = [if grant then 1#8 else 2#8]) ∧
    (∀ m, parseMask b = some m ↔ m &&& 0xE000#16 = 0#16 ∧ b = bytes16 m) ∧
    (∀ h, parseHandle b = some h ↔ b = [byteOf h.slot.val, h.gen]) ∧
    (∀ k, parseFind b = some k ↔ k ≠ 0#16 ∧ b = bytes16 k) ∧
    (∀ g n, parseListGroup b = some (g, n) ↔ n < 64 ∧ b = [byteOf g.val, byteOf n]) ∧
    (∀ g staged, parseReadMap b = some (g, staged) ↔ b = [byteOf g.val, flagByte staged]) ∧
    (∀ d, parseLampTest b = some d ↔ 1 ≤ d ∧ d ≤ 10 ∧ b = [byteOf d])) ∧
  (∀ w : Word16, bytes16 w = [BitVec.ofNat 8 (w.toNat / 256), BitVec.ofNat 8 w.toNat]) ∧
  (∀ n : Nat, byteOf n = BitVec.ofNat 8 n) ∧
  [false, true].map flagByte = [0#8, 1#8] ∧
  [none, some Link.a, some Link.b].map linkCode = [0#8, 1#8, 2#8] ∧
  [SessionState.offline, .standby, .primary, .lost].map SessionState.code = [0#8, 1#8, 2#8, 3#8] ∧
  [Sys2Proof.Machine.Class.alarm, .warning, .status, .advisory].map Class.code = [0#8, 1#8, 2#8, 3#8] ∧
  [Latch.none, .ack, .ackReset].map Latch.code = [0#8, 1#8, 2#8] ∧
  [HornField.quiet, .sound].map HornField.code = [0#8, 1#8] ∧
  [OrphanPolicy.drop, .keep, .adopt].map OrphanPolicy.code = [0#8, 1#8, 2#8] ∧
  [Annunciation.steady, .new, .acked, .clearedNew, .awaitReset].map Annunciation.code = [0#8, 1#8, 2#8, 3#8, 4#8] ∧
  [Reason.expired, .acknowledged, .reset, .retiredByPrimary].map Reason.code = [1#8, 2#8, 3#8, 4#8] ∧
  [Level.normal, .low, .critical].map Level.code = [0#8, 1#8, 2#8] ∧
  [Commit.idle, .pending].map Commit.code = [0#8, 1#8] ∧
  [HornState.off, .alarmTone, .warningTone].map HornState.code = [0#8, 1#8, 2#8]

/-- PEEK shifts out the status byte and filler, and clears the two flags it has shown; a kind byte of none of the four
kinds does the same and sets FRAME_ERROR; a transaction without a whole kind byte has no effect but the time it takes
(R131, R133, R134). That the status byte and the kind byte's effect are taken at one moment, and the clock's moves, are the
model's choice (assumptions 3 and 1). -/
def Obligations.PeekShowsStatus : Prop :=
  (∀ (dt : Nat) (s : State), s.after dt = { s with time := { s.time with clock := s.time.clock + dt } }) ∧
  ∀ (dt : Nat) (l : Link) (bytes : List Byte) (s : State), s.ready →
    let now := s.after dt
    let shown := now.statusByte l :: List.replicate bytes.length 0x00#8
    exec (.peek dt l none bytes) s = .next now ∧
    exec (.peek dt l (some 0x00#8) bytes) s =
      .next { now with
        ports := s.ports.set l { s.port l with overrun := false, frameError := false, dataOut := shown } } ∧
    ∀ k : Byte, k ≠ 0x00#8 → k ≠ 0x01#8 → k ≠ 0x02#8 → k ≠ 0x0E#8 →
      exec (.peek dt l (some k) bytes) s =
        .next { now with
          ports := s.ports.set l { s.port l with overrun := false, frameError := true, dataOut := shown } }

/-- SEND: a malformed frame sets FRAME_ERROR whatever the slot; into an EXECUTING slot it is dropped with OVERRUN; else
it is taken, and the slot is ANSWERED with the retained response when sequence and code repeat it, EXECUTING otherwise
(R135, R136, R137, R143). That the status byte shown and the slot judged at the rise of select are taken at one moment, and
the clock's moves, are the model's choice (assumptions 3 and 1). -/
def Obligations.SendTakesOneRequest : Prop :=
  ∀ (dt : Nat) (l : Link) (bytes : List Byte) (s : State), s.ready →
    let now := s.after dt
    let p : Port :=
      { s.port l with
        overrun := false
        frameError := false
        dataOut := now.statusByte l :: List.replicate bytes.length 0x00#8 }
    let links := s.sessions.links.set l (now.restartedSession l)
    (checkFrame bytes = none →
      exec (.send dt l bytes) s = .next { now with ports := s.ports.set l { p with frameError := true } }) ∧
    ∀ r, checkFrame bytes = some r →
      ((s.port l).slot.isExecuting = true →
        exec (.send dt l bytes) s = .next { now with ports := s.ports.set l { p with overrun := true } }) ∧
      ((s.port l).slot.isExecuting = false →
        (∀ a : Retained, (s.port l).retained = some a → a.response.seq = r.seq → a.code = r.code →
          exec (.send dt l bytes) s =
            .next { now with
              ports := s.ports.set l { p with slot := .answered a.response }
              sessions := { s.sessions with links } }) ∧
        ((∀ a : Retained, (s.port l).retained = some a → ¬(a.response.seq = r.seq ∧ a.code = r.code)) →
          exec (.send dt l bytes) s =
            .next { now with
              ports := s.ports.set l { p with slot := .executing r }
              sessions := { s.sessions with links } }))

/-- FETCH shifts out the status byte and the response frame, cut or filled up to the bytes shifted in: the response of
an ANSWERED slot, which becomes EMPTY; else PENDING with the executing sequence; else the retained response, or
NO_RESPONSE with sequence 0. Nothing else changes but the flags shown (R141, R142). That the status byte, of the fall of
select, and the slot judged at the complete kind byte are taken at one moment, and the clock's moves, are the model's choice
(assumptions 3 and 1). -/
def Obligations.FetchShiftsResponse : Prop :=
  ∀ (dt : Nat) (l : Link) (bytes : List Byte) (s : State), s.ready →
    let now := s.after dt
    let fetched (slot : ReqSlot) (a : Response) : Port :=
      { s.port l with
        slot
        overrun := false
        frameError := false
        dataOut :=
          now.statusByte l ::
            (responseFrame a ++ List.replicate (bytes.length - (responseFrame a).length) 0x00#8).take bytes.length }
    (∀ a, (s.port l).slot = .answered a →
      exec (.fetch dt l bytes) s = .next { now with ports := s.ports.set l (fetched .empty a) }) ∧
    (∀ r, (s.port l).slot = .executing r →
      exec (.fetch dt l bytes) s =
        .next { now with
          ports := s.ports.set l (fetched (.executing r) { seq := r.seq, result := .pending, payload := [] }) }) ∧
    ((s.port l).slot = .empty →
      (∀ a, (s.port l).retained = some a →
        exec (.fetch dt l bytes) s = .next { now with ports := s.ports.set l (fetched .empty a.response) }) ∧
      ((s.port l).retained = none →
        exec (.fetch dt l bytes) s =
          .next { now with
            ports := s.ports.set l (fetched .empty { seq := 0#8, result := .noResponse, payload := [] }) }))

/-- LINK_RESET empties the slot, clears the retained response and both flags, and makes a LOST link OFFLINE; an OFFLINE
link stays so; a link in session departs as at DETACH with LEAVE, into OFFLINE, with PEER reset to the other (R144,
R145, R154). That the status byte shown and the slot and session met at the rise of select are taken at one moment, the
clock's moves, and the end of the failover flag are the model's choice (assumptions 3, 1 and 10). -/
def Obligations.LinkResetEmptiesPort : Prop :=
  ∀ (dt : Nat) (l : Link) (bytes : List Byte) (s : State), s.ready →
    let now := s.after dt
    let p : Port :=
      { slot := .empty, retained := none, overrun := false, frameError := false
        dataOut := now.statusByte l :: List.replicate bytes.length 0x00#8 }
    ((s.session l).state = .offline →
      exec (.linkReset dt l bytes) s = .next { now with ports := s.ports.set l p }) ∧
    ((s.session l).state = .lost →
      exec (.linkReset dt l bytes) s =
        .next { now with
          ports := s.ports.set l p
          sessions := { s.sessions with links := s.sessions.links.set l { s.session l with state := .offline } } }) ∧
    (s.inSession l = true → OwnershipSound s →
      ∃ t, exec (.linkReset dt l bytes) s = .next t ∧ Departed s t l false .offline .reset ∧ t.port l = p ∧
        t.time = now.time)

/-! ### Session and role requests -/

/-- ATTACH of a link out of session opens its session: PRIMARY where it wishes so and the primary is NONE, with the staged
map reset, else STANDBY; every kind in the mask, empty sets, PEER joined to the other link in session (R149, R150). Of a
link in session it is answered WRONG_STATE and changes nothing else (R149, R181 step 8). That bits 7–2 of the flags are sent
as 0, and that ATTACH is taken in the first half second too, is the model's choice (assumptions 25 and 26). -/
def Obligations.AttachOpensSession : Prop :=
  (∀ (l : Link) (s : State) (r : Request) (wish failover : Bool) (k : Byte), s.asks l r → r.code = 0x10#8 →
    r.payload = [flagByte wish, k, flagByte failover] → k ≠ 0#8 → s.inSession l = true →
    exec (.attach l) s = .next (s.refusing l r .wrongState)) ∧
  ∀ (l : Link) (s : State) (r : Request) (wish failover : Bool) (k : Byte), s.asks l r → r.code = 0x10#8 →
    r.payload = [flagByte wish, k, flagByte failover] → k ≠ 0#8 → s.inSession l = false →
    let primary := wish && s.sessions.primary.isNone
    let opened : LinkSession :=
      { state := if primary then .primary else .standby
        keepalive := some { interval := k.toNat, count := k.toNat, startIn := s.startIn }
        failover, mask := 0x1FFF#16, notices := .none, changed := [] }
    let peer := s.session l.other
    let told := if s.inSession l.other then { peer with notices := { peer.notices with peer := some .joined } } else peer
    exec (.attach l) s =
      .next { s with
        ports := s.portsAnswering l r .ok
          [if primary then 2#8 else 1#8,
           (if wish && !primary then 1#8 else 0#8) ||| (if (s.session l).state = .lost then 2#8 else 0#8)]
        sessions :=
          { s.sessions with
            links := (s.sessions.links.set l opened).set l.other told
            primary := if primary then some l else s.sessions.primary
            permit := if primary then none else s.sessions.permit }
        map := if primary then { s.map with staged := s.map.active } else s.map }

/-- DETACH departs the link into OFFLINE with PEER left to the other: in mode WITHDRAW_ALL every record of the link is
freed, in mode LEAVE each takes its orphan policy; the answer counts records freed, kept and adopted (R153–R157). A
record of policy ADOPT is adopted when the other link is in session and holds no LIVE record of its key (R156). The
end of the failover flag is the model's choice (assumption 10). -/
def Obligations.DetachDeparts : Prop :=
  (∀ (s : State) (l : Link) (q : Record), s.adopts l q = true ↔ q.policy = .adopt ∧ s.inSession l.other = true ∧
    ∀ j p, s.record j = some p → p.owner = some l.other → p.key ≠ q.key) ∧
  (∀ (s : State) (l : Link) (k : Word16), (s.table.findKey l k).isSome = true ↔
    ∃ j p, s.record j = some p ∧ p.owner = some l ∧ p.key = k) ∧
  ∀ (l : Link) (s : State) (r : Request) (all : Bool), s.asks l r → r.code = 0x11#8 →
    r.payload = [if all then 0#8 else 1#8] → s.inSession l = true → OwnershipSound s →
    ∃ t, exec (if all then .detachWithdrawAll l else .detachLeave l) s = .next t ∧
      Departed s t l all .offline .left ∧ t.time = s.time ∧
      t.port l =
        (s.portsAnswering l r .ok
          [byteOf (s.ownedSlots l fun q => all || q.policy == .drop).length,
           byteOf (s.ownedSlots l fun q => !all && q.policy != .drop && !s.adopts l q).length,
           byteOf (s.ownedSlots l fun q => !all && q.policy != .drop && s.adopts l q).length]).get l

/-- PING and SET_ATTENTION answer the link's own state and replace its mask, and change nothing else (R152, R172). -/
def Obligations.PingAndSetAttention : Prop :=
  ∀ (l : Link) (s : State) (r : Request), s.asks l r → s.inSession l = true →
    (r.code = 0x12#8 → r.payload = [] →
      exec (.ping l) s =
        .next { s with
          ports := s.portsAnswering l r .ok
            [(s.session l).state.code, linkCode s.sessions.primary, flagByte (decide (s.sessions.permit = some l)),
             byteOf (((s.session l).keepalive.map Keepalive.interval).getD 0)] }) ∧
    ∀ m : Word16, r.code = 0x13#8 → r.payload = bytes16 m →
      exec (.setAttention l) s =
        if m &&& 0xE000#16 = 0#16 then
          .next { s with
            ports := s.portsAnswering l r .ok (bytes16 m)
            sessions := { s.sessions with links := s.sessions.links.set l { s.session l with mask := m } } }
        else .next (s.refusing l r .badRequest)

/-- COLLECT removes every stored kind, takes the eight lowest slots out of the changed set and frees the tombstones among
them (R17, R173, R174). The response holds the present mask, with CHANGES and MORE while slots remain; the eight values; the
entry count; and for each slot reported, in order, handle, key and state, with reason and bit 7 for a tombstone (R185). That
the bits without a meaning in the KEY value, in byte 10 and in an entry's byte 0 are sent as 0 is the model's choice
(assumption 25). -/
def Obligations.CollectDrainsSets : Prop :=
  ∀ (l : Link) (s : State) (r : Request), s.asks l r → r.code = 0x14#8 → r.payload = [] → s.inSession l = true →
    OwnershipSound s →
    let reported := (s.session l).changed.take 8
    let more := decide (8 < (s.session l).changed.length)
    let n := (s.session l).notices
    ∃ (t : State) (entries : List (List Byte)), exec (.collect l) s = .next t ∧
      (∀ i, t.slot i = if i ∈ reported ∧ (s.slot i).isTombstone = true then (s.slot i).freed else s.slot i) ∧
      t.table.arrival = s.table.arrival ∧ t.table.low = lowAfterFreeing s t ∧
      t.sessions =
        { s.sessions with
          links := s.sessions.links.set l
            { s.session l with notices := .none, changed := (s.session l).changed.drop 8 } } ∧
      t.ports = s.portsAnswering l r .ok (s.collectBytes l) ∧
      (s.collectBytes l).length = 11 + 5 * reported.length ∧
      entries.length = reported.length ∧
      (∀ (m : Nat) (i : SlotIx), reported[m]? = some i →
        (∀ q, s.record i = some q →
          entries[m]? = some ([byteOf i.val, (s.slot i).gen] ++ bytes16 q.key ++ [q.state.code])) ∧
        ∀ x, (s.slot i).content = .tombstone x →
          entries[m]? =
            some ([0x80#8 ||| byteOf i.val, (s.slot i).gen] ++ bytes16 x.key ++
              [(x.reason.code <<< 4) ||| x.stateAt.code])) ∧
      s.collectBytes l =
        bytes16 (n.kinds more) ++
        [match n.role with
          | none => 0#8
          | some .gained => 1#8
          | some .lost => 2#8
          | some .vacant => 3#8,
         match n.permit with
          | none => 0#8
          | some .granted => 1#8
          | some .withdrawn => 2#8,
         match n.peer with
          | none => 0#8
          | some .joined => 1#8
          | some .left => 2#8
          | some .lost => 3#8
          | some .reset => 4#8,
         match n.map with
          | none => 0#8
          | some .committed => 1#8
          | some .abandoned => 2#8,
         match n.supply with
          | none => 0#8
          | some v => v.code,
         (if n.key.ack then 1#8 else 0#8) ||| (if n.key.silence then 2#8 else 0#8) |||
          (if n.key.reset then 4#8 else 0#8) ||| (if n.key.test then 8#8 else 0#8),
         match n.lamp with
          | none => 0#8
          | some .started => 1#8
          | some .ended => 2#8,
         match n.adoption with
          | none => 0#8
          | some .adopted => 1#8
          | some .conflict => 2#8,
         (if more then 0x80#8 else 0#8) ||| byteOf reported.length] ++ entries.flatten ∧
      t.held = s.held ∧ t.time = s.time ∧ t.map = s.map ∧ t.panel = s.panel ∧ t.keys = s.keys ∧ t.horn = s.horn ∧
      t.supply = s.supply ∧ t.pending = s.pending

/-- PERMIT: a grant to a STANDBY link sets the permit and places PERMIT granted; a withdraw of a held permit clears it,
places PERMIT withdrawn and answers a waiting TAKEOVER DENIED; a withdraw of none changes nothing (R162, R164). -/
def Obligations.PermitGrantsAndWithdraws : Prop :=
  ∀ (l : Link) (s : State) (r : Request), s.asks l r → r.code = 0x20#8 → s.commands l → RolesSound s →
    let o := l.other
    let told (v : PermitNotice) := s.sessions.links.set o
      { s.session o with notices := { (s.session o).notices with permit := some v } }
    (r.payload = [1#8] → (s.session o).state = .standby →
      exec (.permitGrant l) s =
        .next { s with
          ports := s.portsAnswering l r .ok []
          sessions := { s.sessions with links := told .granted, permit := some o } }) ∧
    (r.payload = [1#8] → (s.session o).state ≠ .standby →
      exec (.permitGrant l) s = .next (s.refusing l r .wrongState)) ∧
    (r.payload = [2#8] → s.sessions.permit = none →
      exec (.permitWithdraw l) s = .next { s with ports := s.portsAnswering l r .ok [] }) ∧
    (r.payload = [2#8] → s.sessions.permit = some o → s.sessions.waiting = none →
      exec (.permitWithdraw l) s =
        .next { s with
          ports := s.portsAnswering l r .ok []
          sessions := { s.sessions with links := told .withdrawn, permit := none } }) ∧
    ∀ q, r.payload = [2#8] → s.sessions.waiting = some o → (s.port o).slot = .executing q →
      exec (.permitWithdraw l) s =
        .next { s with
          ports := (s.portsAnswering o q .denied []).set l ((s.portsAnswering l r .ok []).get l)
          sessions := { s.sessions with links := told .withdrawn, permit := none, waiting := none } }

/-- TAKEOVER takes a vacant role at once, swaps the roles where the caller holds the permit and no commit is PENDING, and
waits with its slot EXECUTING where one is; a PRIMARY caller is answered WRONG_STATE (R163). -/
def Obligations.TakeoverTakesRole : Prop :=
  ∀ (l : Link) (s : State) (r : Request), s.asks l r → r.code = 0x21#8 → r.payload = [] →
    let o := l.other
    let mine := { s.session l with state := .primary }
    ((s.session l).state = .standby → s.sessions.primary = none →
      exec (.takeover l) s =
        .next { s with
          ports := s.portsAnswering l r .ok []
          sessions :=
            { s.sessions with links := s.sessions.links.set l mine, primary := some l, permit := none }
          map := { s.map with staged := s.map.active } }) ∧
    ((s.session l).state = .standby → s.sessions.primary = some o → s.sessions.permit = some l → s.map.commit = .idle →
      exec (.takeover l) s =
        .next { s with
          ports := s.portsAnswering l r .ok []
          sessions :=
            { s.sessions with
              links := (s.sessions.links.set l mine).set o
                { s.session o with
                  state := .standby, notices := { (s.session o).notices with role := some .lost } }
              primary := some l, permit := none }
          map := { s.map with staged := s.map.active } }) ∧
    ((s.session l).state = .standby → s.sessions.primary = some o → s.sessions.permit = some l →
      s.map.commit = .pending →
      exec (.takeover l) s = .next { s with sessions := { s.sessions with waiting := some l } }) ∧
    ((s.session l).state = .primary → exec (.takeover l) s = .next (s.refusing l r .wrongState))

/-- A TAKEOVER whose commit has ended is completed with the swap of R163 and answered OK: by TAKEOVER_COMPLETE, or before
whatever command comes first (R164; the moment is the model's choice, assumption 6). -/
def Obligations.DueTakeoverCompletes : Prop :=
  ∀ (l : Link) (s : State) (r : Request), s.held = false → s.sessions.takeoverDue = some l →
    (s.port l).slot = .executing r →
    let o := l.other
    let swapped : State :=
      { s with
        ports := s.portsAnswering l r .ok []
        sessions :=
          { s.sessions with
            links := (s.sessions.links.set l { s.session l with state := .primary }).set o
              { s.session o with state := .standby, notices := { (s.session o).notices with role := some .lost } }
            primary := some l, permit := none, takeoverDue := none }
        map := { s.map with staged := s.map.active } }
    exec .takeoverComplete s = .next swapped ∧
    ∀ c : Instr, c ≠ .deviceReset → c ≠ .resetRelease → exec c s = exec c swapped

/-- YIELD makes the caller STANDBY, and hands the role to a STANDBY link with ROLE gained, or leaves it vacant; the staged
map is reset and the permit cleared (R161, R159). -/
def Obligations.YieldHandsOver : Prop :=
  ∀ (l : Link) (s : State) (r : Request), s.asks l r → r.code = 0x22#8 → r.payload = [] → s.commands l →
    s.map.commit = .idle →
    let o := l.other
    let yielded := s.sessions.links.set l { s.session l with state := .standby }
    ((s.session o).state = .standby →
      exec (.yieldRole l) s =
        .next { s with
          ports := s.portsAnswering l r .ok [1#8]
          sessions :=
            { s.sessions with
              links := yielded.set o
                { s.session o with
                  state := .primary, notices := { (s.session o).notices with role := some .gained } }
              primary := some o, permit := none }
          map := { s.map with staged := s.map.active } }) ∧
    ((s.session o).state ≠ .standby →
      exec (.yieldRole l) s =
        .next { s with
          ports := s.portsAnswering l r .ok [2#8]
          sessions := { s.sessions with links := yielded, primary := none, permit := none }
          map := { s.map with staged := s.map.active } })

/-- CLAIM_ORPHAN makes the primary the owner under a key it does not hold live, and changes nothing else; with a record
that is no orphan it is answered NOT_OWNER, and with a key held live DUPLICATE_KEY (R158). -/
def Obligations.ClaimOrphanTakesOwnership : Prop :=
  ∀ (l : Link) (s : State) (r : Request) (i : SlotIx) (g : Byte) (k : Word16) (q : Record), s.asks l r →
    r.code = 0x23#8 → r.payload = [byteOf i.val, g] ++ bytes16 k → k ≠ 0#16 → s.commands l →
    s.table.resolve { slot := i, gen := g } = some q →
    (q.owner ≠ none → exec (.claimOrphan l) s = .next (s.refusing l r .notOwner)) ∧
    (q.owner = none → (∃ j p, s.record j = some p ∧ p.owner = some l ∧ p.key = k) →
      exec (.claimOrphan l) s = .next (s.refusing l r .duplicateKey)) ∧
    (q.owner = none → (∀ j p, s.record j = some p → p.owner = some l → p.key ≠ k) →
      exec (.claimOrphan l) s =
        .next { s with
          ports := s.portsAnswering l r .ok [byteOf i.val, g]
          table :=
            { s.table with
              slots := s.table.slots.set i.val
                { s.slot i with content := .live { q with owner := some l, key := k } } i.isLt } })

/-! ### The owner's requests -/

/-- POST takes the lowest FREE slot at its next generation, writes the record, makes it the newest, and sends TABLE to
every link in session when the free count passes from 5 to 4 with the low-table flag clear (R2, R11–R13, R19, R58). Of a
key the caller holds live it is answered DUPLICATE_KEY however full the table, else TABLE_FULL where the free slots do not
exceed the alarms' reserve (R12, R18). That POST is taken in the first half second after power-on too is the model's choice
(assumption 26). -/
def Obligations.PostAllocatesOrRefuses : Prop :=
  (∀ (l : Link) (s : State) (r : Request) (p : PostPayload) (i : SlotIx), s.asks l r → r.code = 0x30#8 →
    parsePost r.payload = some p → s.inSession l = true →
    (∀ j q, s.record j = some q → q.owner = some l → q.key ≠ p.key) →
    (if p.cls = .alarm then 1 else 5) ≤ s.table.freeCount →
    (s.slot i).isFree = true → (∀ j < i, (s.slot j).isFree = false) →
    let gen := if (s.slot i).gen = 255#8 then 1#8 else (s.slot i).gen + 1#8
    let written : Record :=
      { owner := some l, key := p.key, group := p.group, cls := p.cls, priority := p.priority, latch := p.latch
        horn := p.horn, policy := p.policy, glyph := p.glyph
        lifetime := if p.period = 0 then none else
          some { period := p.period, remaining := p.period, startIn := s.startIn, due := false }
        state := if p.latch = .none then .steady else .new
        silenced := false }
    let crossed := s.table.freeCount = 5 ∧ s.table.low = false
    ∃ t, exec (.post l) s = .next t ∧
      (∀ j, t.slot j =
        surfacedSlot s t p.group j (if j = i then { gen, content := .live written } else s.slot j)) ∧
      t.table.arrival = s.table.arrival ++ [i] ∧
      (t.table.low = true ↔ s.table.low = true ∨ s.table.freeCount = 5) ∧
      (∀ m, t.session m =
        if crossed ∧ s.inSession m = true then
          { s.session m with notices := { (s.session m).notices with table := true } }
        else s.session m) ∧
      s.sameRoles t ∧ t.ports = s.portsAnswering l r .ok [byteOf i.val, gen] ∧ s.sameBut t) ∧
  ∀ (l : Link) (s : State) (r : Request) (p : PostPayload), s.asks l r → r.code = 0x30#8 →
    parsePost r.payload = some p → s.inSession l = true →
    ((∃ j q, s.record j = some q ∧ q.owner = some l ∧ q.key = p.key) →
      exec (.post l) s = .next (s.refusing l r .duplicateKey)) ∧
    ((∀ j q, s.record j = some q → q.owner = some l → q.key ≠ p.key) →
      s.table.freeCount < (if p.cls = .alarm then 1 else 5) →
      exec (.post l) s = .next (s.refusing l r .tableFull))

/-- The owner's AMEND applies every selected field and no other; QUIET to SOUND clears the silenced flag of an
unacknowledged record; the group is re-decided and the horn with it (R20–R22). -/
def Obligations.AmendAppliesSelection : Prop :=
  ∀ (l : Link) (s : State) (r : Request) (p : AmendPayload) (q : Record), s.asks l r → r.code = 0x31#8 →
    parseAmend r.payload = some p → s.inSession l = true → s.table.resolve p.handle = some q → q.owner = some l →
    let amended : Record :=
      { q with
        priority := p.priority.getD q.priority
        glyph := p.glyph.getD q.glyph
        horn := p.horn.getD q.horn
        policy := p.policy.getD q.policy
        lifetime := match p.period with
          | none => q.lifetime
          | some 0 => none
          | some n => some { period := n, remaining := n, startIn := s.startIn, due := false }
        silenced :=
          if q.state.unacknowledged = true ∧ q.horn = .quiet ∧ p.horn = some .sound then false else q.silenced }
    ∃ t, exec (.amend l) s = .next t ∧
      (∀ j, t.slot j =
        surfacedSlot s t q.group j
          (if j = p.handle.slot then { s.slot j with content := .live amended } else s.slot j)) ∧
      t.table.arrival = s.table.arrival ∧ t.table.low = s.table.low ∧ t.sessions = s.sessions ∧
      t.ports = s.portsAnswering l r .ok [] ∧ s.sameBut t

/-- The state table of R29, cell by cell, for the latches ACK and ACK_RESET outside STEADY and NONE in it, with the reason
that each retiring event but CLEAR writes into a tombstone: EXPIRED, ACKNOWLEDGED, RESET. -/
def Obligations.AnnunciationTableHolds : Prop :=
  (RecordEvent.expire.reason = .expired ∧ RecordEvent.ack.reason = .acknowledged ∧ RecordEvent.reset.reason = .reset) ∧
  ∀ l : Latch,
    (∀ ev : RecordEvent, ev = .clear ∨ ev = .expire →
      annunciate ev .none .steady = .retired ∧
      (l ≠ .none →
        annunciate ev l .new = .moved .clearedNew ∧
        annunciate ev l .acked = (if l = .ack then .retired else .moved .awaitReset) ∧
        annunciate ev l .clearedNew = .noEffect ∧
        annunciate ev l .awaitReset = .noEffect)) ∧
    (annunciate .ack .none .steady = .noEffect ∧
      (l ≠ .none →
        annunciate .ack l .new = .moved .acked ∧
        annunciate .ack l .acked = .noEffect ∧
        annunciate .ack l .clearedNew = (if l = .ack then .retired else .moved .awaitReset) ∧
        annunciate .ack l .awaitReset = .noEffect)) ∧
    (∀ st : Annunciation, annunciate .reset l st = if st = .awaitReset then .retired else .noEffect) ∧
    ∀ st : Annunciation,
      annunciate .reassert l st = if st = .steady ∨ st = .new then .wrongState else .moved .new

/-- The owner's CLEAR delivers the event of R29 and answers RETIRED, CLEARED or ALREADY_CLEARED (R30, R42). The count
that a lifetime keeps whose EXPIRE was due is the model's reading (assumption 15). -/
def Obligations.ClearDeliversEvent : Prop :=
  ∀ (l : Link) (s : State) (r : Request) (i : SlotIx) (g : Byte) (q : Record), s.asks l r → r.code = 0x32#8 →
    r.payload = [byteOf i.val, g] → s.inSession l = true → s.table.resolve { slot := i, gen := g } = some q →
    q.owner = some l → q.Sound →
    let outcome : Byte :=
      match q.state with
      | .steady => 1#8
      | .new => 2#8
      | .acked => if q.latch = .ack then 1#8 else 2#8
      | .clearedNew => 3#8
      | .awaitReset => 3#8
    ∃ t, exec (.clear l) s = .next t ∧ Applied s t .clear (.link l) i q ∧
      t.ports = s.portsAnswering l r .ok [outcome]

/-- The owner's REASSERT of an ACKED, CLEARED_NEW or AWAIT_RESET record makes it NEW, not silenced, the newest, with its
lifetime restarted; of a STEADY or NEW record it is answered WRONG_STATE (R34, R43). -/
def Obligations.ReassertRenews : Prop :=
  ∀ (l : Link) (s : State) (r : Request) (i : SlotIx) (g : Byte) (q : Record), s.asks l r → r.code = 0x33#8 →
    r.payload = [byteOf i.val, g] → s.inSession l = true → s.table.resolve { slot := i, gen := g } = some q →
    q.owner = some l →
    ((q.state = .steady ∨ q.state = .new) → exec (.reassert l) s = .next (s.refusing l r .wrongState)) ∧
    (q.state ≠ .steady → q.state ≠ .new →
      ∃ t, exec (.reassert l) s = .next t ∧ Applied s t .reassert (.link l) i q ∧
        t.record i = some { q with
          state := .new, silenced := false
          lifetime := q.lifetime.map fun x => { x with remaining := x.period, startIn := s.startIn, due := false } } ∧
        t.ports = s.portsAnswering l r .ok [])

/-- The owner's WITHDRAW frees the slot at once, and the primary's RETIRE frees its own records and orphans and leaves a
tombstone RETIRED_BY_PRIMARY for the other link, in any annunciation state (R14, R15, R23, R24). A slot that joins a
changed set stands in it once, and the set stays in ascending order. -/
def Obligations.WithdrawAndRetire : Prop :=
  (∀ (i j : SlotIx) (c : List SlotIx), (j ∈ joinSlot i c ↔ j = i ∨ j ∈ c) ∧
    (c.Pairwise (· < ·) → (joinSlot i c).Pairwise (· < ·))) ∧
  ∀ (l : Link) (s : State) (r : Request) (i : SlotIx) (g : Byte) (q : Record), s.asks l r →
    r.payload = [byteOf i.val, g] → s.table.resolve { slot := i, gen := g } = some q →
    (r.code = 0x34#8 → s.inSession l = true → q.owner = some l →
      ∃ t, exec (.withdraw l) s = .next t ∧ Retired s t (.link l) .retiredByPrimary i q ∧ t.slot i = (s.slot i).freed ∧
        t.ports = s.portsAnswering l r .ok []) ∧
    (r.code = 0x53#8 → s.commands l →
      ∃ t, exec (.retire l) s = .next t ∧ Retired s t (.link l) .retiredByPrimary i q ∧
        t.ports = s.portsAnswering l r .ok [])

/-! ### Queries -/

/-- FIND and QUERY read and change nothing: FIND answers the handle of the caller's LIVE record under the key, or
NOT_FOUND; QUERY answers the nineteen bytes of R185 (R176, R177). -/
def Obligations.FindAndQueryRead : Prop :=
  ∀ (l : Link) (s : State) (r : Request), s.asks l r → s.inSession l = true →
    (∀ k : Word16, r.code = 0x40#8 → r.payload = bytes16 k → k ≠ 0#16 →
      ((∀ j q, s.record j = some q → q.owner = some l → q.key ≠ k) →
        exec (.find l) s = .next (s.refusing l r .notFound)) ∧
      ∀ (i : SlotIx) (q : Record), s.record i = some q → q.owner = some l → q.key = k → OwnershipSound s →
        exec (.find l) s = .next { s with ports := s.portsAnswering l r .ok [byteOf i.val, (s.slot i).gen] }) ∧
    ∀ (i : SlotIx) (g : Byte) (q : Record), r.code = 0x41#8 → r.payload = [byteOf i.val, g] →
      s.table.resolve { slot := i, gen := g } = some q →
      exec (.query l) s =
        .next { s with
          ports := s.portsAnswering l r .ok
            ([linkCode q.owner] ++ bytes16 q.key ++
              [byteOf q.group.val, q.cls.code, byteOf q.priority.val, q.latch.code, q.horn.code, q.policy.code,
               q.glyph] ++
              bytes16 (BitVec.ofNat 16 ((q.lifetime.map Lifetime.period).getD 0)) ++
              bytes16 (BitVec.ofNat 16 ((q.lifetime.map Lifetime.remaining).getD 0)) ++
              [q.state.code, flagByte q.silenced, byteOf ((s.table.claimList q.group).idxOf i),
               byteOf (s.table.claimList q.group).length, flagByte (s.isVisible i)]) }

/-- LIST_GROUP, PANEL_STATUS and READ_MAP answer OK with the bytes of R185 and change nothing (R80, R178, R179). The four
counts are the numbers of FREE, LIVE and TOMBSTONE slots and of LIVE records without an owner, over all 64 slots, each FREE,
LIVE or TOMBSTONE by what it holds (R1). That bit 3 of a LIST_GROUP entry's byte 4 is sent as 0 is the model's choice
(assumption 25). -/
def Obligations.PanelQueriesRead : Prop :=
  (∀ x : Slot,
    (x.isFree = true ↔ x.content = .free) ∧ (x.isLive = true ↔ ∃ q, x.content = .live q) ∧
    (x.isTombstone = true ↔ ∃ e, x.content = .tombstone e) ∧
    (x.isOrphan = true ↔ ∃ q, x.content = .live q ∧ q.owner = none)) ∧
  (∀ (s : State) (i : SlotIx), s.slot i = s.table.slots.get i ∧
    ∀ q, s.record i = some q ↔ (s.slot i).content = .live q) ∧
  (allSlots.Nodup ∧ ∀ i : SlotIx, i ∈ allSlots) ∧
  (∀ s : State,
    let count (p : SlotIx → Bool) : Nat := ((List.finRange 64).filter p).length
    s.table.freeCount = count (fun i => decide ((s.slot i).content = .free)) ∧
    s.table.liveCount = count (fun i => (s.record i).isSome) ∧
    s.table.tombstoneCount = count (fun i => decide ((s.slot i).content ≠ .free) && (s.record i).isNone) ∧
    s.table.orphanCount = count (fun i => (s.record i).any fun q => decide (q.owner = none))) ∧
  ∀ (l : Link) (s : State) (r : Request), s.asks l r → s.inSession l = true →
    (∀ (g : Group) (start : Fin 64), r.code = 0x42#8 → r.payload = [byteOf g.val, byteOf start.val] →
      let shown := ((s.table.claimList g).drop start.val).take 10
      (∀ j ∈ s.table.arrival, (s.slot j).isLive = true) →
      ∃ entries : List (List Byte), entries.length = shown.length ∧
        (∀ (n : Nat) (i : SlotIx) (q : Record), shown[n]? = some i → s.record i = some q →
          entries[n]? = some
            ([byteOf i.val, (s.slot i).gen] ++ bytes16 q.key ++
              [(linkCode q.owner <<< 6) ||| (q.cls.code <<< 4) ||| q.state.code])) ∧
        exec (.listGroup l) s =
          .next { s with
            ports := s.portsAnswering l r .ok
              (byteOf (s.table.claimList g).length :: flagByte (s.visibleSlot g).isSome :: byteOf shown.length ::
                entries.flatten) }) ∧
    (r.code = 0x43#8 → r.payload = [] →
      exec (.panelStatus l) s =
        .next { s with
          ports := s.portsAnswering l r .ok
            [linkCode s.sessions.primary, linkCode s.sessions.permit, (s.session .a).state.code,
             (s.session .b).state.code, s.supply.level.code, flagByte s.supply.shedding, s.horn.state.code,
             flagByte s.panel.lamp.running, s.map.commit.code, byteOf s.table.freeCount, byteOf s.table.liveCount,
             byteOf s.table.tombstoneCount, byteOf s.table.orphanCount, byteOf s.panel.frame.val] } ∧
      s.table.freeCount + s.table.liveCount + s.table.tombstoneCount = 64) ∧
    ∀ (g : Group) (staged : Bool), r.code = 0x44#8 → r.payload = [byteOf g.val, flagByte staged] →
      (staged = true → s.sessions.primary = some l) →
      let e := (if staged then s.map.staged else s.map.active).get g
      exec (.readMap l) s =
        .next { s with
          ports := s.portsAnswering l r .ok
            (s.map.commit.code :: e.idle :: byteOf e.points.length :: e.points.map fun p => byteOf p.val) }

/-! ### The primary's requests -/

/-- ACKNOWLEDGE and REMOTE_RESET deliver ACK or RESET to the listed records, visible or not, or to the visible records
in the states concerned, a set fixed before any member changes; the answer counts the records moved or retired
(R44–R47), that is, those for which the state table gives a retirement or a move (R29). A latch NONE outside STEADY, which
no record has, acts as ACK: the model's choice (assumption 19). -/
def Obligations.AcknowledgeAndRemoteReset : Prop :=
  (∀ (s : State) (ev : RecordEvent) (i : SlotIx), s.answersTo ev i = true ↔
    ∃ q, s.record i = some q ∧
      (annunciate ev q.latch q.state = .retired ∨ ∃ st, annunciate ev q.latch q.state = .moved st)) ∧
  ∀ (l : Link) (s : State) (r : Request) (ev : RecordEvent), s.asks l r → s.commands l →
    (ev = .ack ∧ r.code = 0x50#8 ∨ ev = .reset ∧ r.code = 0x51#8) →
    (∀ hs : List Handle, parseTargets r.payload = some (.handles hs) →
      (∀ h ∈ hs, (s.table.resolve h).isSome = true) →
      ∃ t, exec (if ev = .ack then .acknowledgeHandles l else .remoteResetHandles l) s = .next t ∧
        Delivered s t ev (.link l) (hs.map Handle.slot) ∧
        t.ports = s.portsAnswering l r .ok [byteOf ((hs.map Handle.slot).countP (s.answersTo ev))]) ∧
    (∀ hs : List Handle, parseTargets r.payload = some (.handles hs) →
      (∃ h ∈ hs, (s.table.resolve h).isSome = false) →
      exec (if ev = .ack then .acknowledgeHandles l else .remoteResetHandles l) s =
        .next (s.refusing l r .staleHandle)) ∧
    (r.payload = [2#8] →
      let targets := if ev = .ack then s.visibleUnacknowledged else s.visibleAwaitingReset
      ∃ t, exec (if ev = .ack then .acknowledgeAllVisible l else .remoteResetAllVisible l) s = .next t ∧
        Delivered s t ev (.link l) targets ∧
        t.ports = s.portsAnswering l r .ok [byteOf targets.length])

/-- The primary's SILENCE request silences the visible unacknowledged records and answers the number whose flag passed to
yes (R114). -/
def Obligations.SilenceRequestSilences : Prop :=
  (∀ (s : State) (i : SlotIx), s.isUnsilenced i = true ↔ ∃ q, s.record i = some q ∧ q.silenced = false) ∧
  ∀ (l : Link) (s : State) (r : Request), s.asks l r → r.code = 0x52#8 → r.payload = [] → s.commands l →
    ∃ t, exec (.silence l) s = .next t ∧ Silenced s t ∧
      t.ports = s.portsAnswering l r .ok [byteOf (s.visibleUnacknowledged.countP s.isUnsilenced)]

/-- STAGE_MAP replaces one staged entry; COMMIT_MAP of a valid staged map answers ACCEPTED and makes the commit PENDING;
ABORT_MAP ends a PENDING commit and keeps the staged map, or resets it in IDLE (R73, R75, R79). COMMIT_MAP of a staged map
that lists a point in two groups changes nothing and answers MAP_CONFLICT with the lowest such point and the two lowest
groups that list it (R74). That an ABORT_MAP in PENDING leaves a waiting TAKEOVER to be completed before the next command is
the model's choice (assumption 6). -/
def Obligations.MapRequestsMoveCommit : Prop :=
  (∀ (l : Link) (s : State) (r : Request), s.asks l r → s.commands l →
    (∀ p : StagePayload, r.code = 0x54#8 → parseStage r.payload = some p → s.map.commit = .idle →
      exec (.stageMap l) s =
        .next { s with
          ports := s.portsAnswering l r .ok []
          map := { s.map with staged := s.map.staged.set p.group.val p.entry p.group.isLt } }) ∧
    (r.code = 0x55#8 → r.payload = [] → s.map.commit = .idle → PointsDisjoint s.map.staged → Limited s.map.staged →
      exec (.commitMap l) s =
        .next { s with
          ports := s.portsAnswering l r .accepted []
          map := { s.map with commit := .pending } }) ∧
    (r.code = 0x56#8 → r.payload = [] → s.map.commit = .idle →
      exec (.abortMap l) s =
        .next { s with
          ports := s.portsAnswering l r .ok []
          map := { s.map with staged := s.map.active } }) ∧
    (r.code = 0x56#8 → r.payload = [] → s.map.commit = .pending →
      exec (.abortMap l) s =
        .next { s with
          ports := s.portsAnswering l r .ok []
          sessions :=
            { s.sessions with
              waiting := none
              takeoverDue := s.sessions.waiting }
          map := { s.map with commit := .idle } })) ∧
  ∀ (l : Link) (s : State) (r : Request) (p : Point) (g h : Group), s.asks l r → s.commands l → r.code = 0x55#8 →
    r.payload = [] → s.map.commit = .idle →
    p ∈ (s.map.staged.get g).points → p ∈ (s.map.staged.get h).points → g < h →
    (∀ k, p ∈ (s.map.staged.get k).points → k < h → k = g) →
    (∀ q < p, ∀ j k, q ∈ (s.map.staged.get j).points → q ∈ (s.map.staged.get k).points → j = k) →
    exec (.commitMap l) s =
      .next { s with ports := s.portsAnswering l r .mapConflict [byteOf p.val, byteOf g.val, byteOf h.val] }

/-- LAMP_TEST of the primary below CRITICAL starts an IDLE test with LAMP started, and lengthens a RUNNING one without
shortening it; LAMP_TEST_END ends a RUNNING test whose key hold is clear, with LAMP ended, and leaves a held one running
(R93, R95, R98). The clock's moves are the model's choice (assumption 1). -/
def Obligations.LampTestRuns : Prop :=
  (∀ (l : Link) (s : State) (r : Request) (d : Nat), s.asks l r → r.code = 0x57#8 → r.payload = [byteOf d] → 1 ≤ d →
    d ≤ 10 → s.commands l → s.supply.level ≠ .critical →
    let e := s.time.clock + d * 1000000
    (s.panel.lamp.running = false →
      exec (.lampTest l) s =
        .next { s with
          ports := s.portsAnswering l r .ok [1#8]
          sessions := s.lampTold .started
          panel := { s.panel with lamp := { running := true, timedEnd := some e, keyHold := false } } }) ∧
    ∀ f, s.panel.lamp.running = true → s.panel.lamp.timedEnd = some f →
      exec (.lampTest l) s =
        .next { s with
          ports := s.portsAnswering l r .ok [2#8]
          panel := { s.panel with lamp := { s.panel.lamp with timedEnd := some (max f e) } } }) ∧
  ∀ (s : State) (f : Nat), s.ready → s.panel.lamp.running = true → s.panel.lamp.timedEnd = some f →
    let time := { s.time with clock := max s.time.clock f }
    (s.panel.lamp.keyHold = true → exec .lampTestEnd s = .next { s with time }) ∧
    (s.panel.lamp.keyHold = false →
      exec .lampTestEnd s =
        .next { s with
          time
          sessions := s.lampTold .ended
          panel := { s.panel with lamp := { running := false, timedEnd := none, keyHold := false } } })

/-- CONFIGURE stores every field, re-decides the groups when the shedding enable changes, returns the chord timer to IDLE
when the chord enable is turned off, and decides the horn once: a horn state left as it was keeps its phase, a tone entered
begins an on-phase at once (R111, R117–R119, R127, R180). -/
def Obligations.ConfigureStoresEveryField : Prop :=
  ∀ (l : Link) (s : State) (r : Request) (p : ConfigurePayload), s.asks l r → r.code = 0x58#8 →
    parseConfigure r.payload = some p → s.commands l →
    ∃ t, exec (.configure l) s = .next t ∧
      t.horn.enable = p.hornEnable ∧ t.horn = s.hornAfter t ∧
      t.supply = { s.supply with shedding := p.shedding } ∧
      t.keys =
        { s.keys with
          modes := p.modes, chordEnable := p.chordEnable
          chord := if s.keys.chordEnable = true ∧ p.chordEnable = false then .idle else s.keys.chord } ∧
      (∀ j, t.slot j = if s.supply.shedding = p.shedding then s.slot j else s.redecidedSlot t j) ∧
      t.table.arrival = s.table.arrival ∧ t.table.low = s.table.low ∧ t.sessions = s.sessions ∧
      t.ports = s.portsAnswering l r .ok [] ∧ t.held = s.held ∧ t.time = s.time ∧ t.map = s.map ∧ t.panel = s.panel ∧
      t.pending = s.pending

/-- RESTART frees every slot with its generation kept, empties the arrival order and both changed sets, clears the
low-table flag, places RESTART with every link in session, ends a lamp test with LAMP ended to its sender, restarts a
chord count and turns the horn off; the rest stands (R25, R97, R120, R167). -/
def Obligations.RestartEmptiesTable : Prop :=
  ∀ (l : Link) (s : State) (r : Request), s.asks l r → r.code = 0x59#8 → r.payload = [] → s.commands l →
    s.map.commit = .idle →
    ∃ t, exec (.restart l) s = .next t ∧
      (∀ i, t.slot i = (s.slot i).freed) ∧ t.table.arrival = [] ∧ t.table.low = false ∧ t.table.freeCount = 64 ∧
      (∀ m, t.session m =
        { s.session m with
          changed := []
          notices :=
            if s.inSession m then
              { (s.session m).notices with
                restart := true
                lamp := if m = l ∧ s.panel.lamp.running = true then some .ended else (s.session m).notices.lamp }
            else (s.session m).notices }) ∧
      s.sameRoles t ∧
      t.panel =
        { s.panel with
          lamp :=
            if s.panel.lamp.running then { running := false, timedEnd := none, keyHold := false } else s.panel.lamp } ∧
      t.keys =
        { s.keys with
          chord := match s.keys.chord with
            | .timing _ => .timing (s.time.clock + 4000000)
            | c => c } ∧
      t.horn.state = .off ∧ t.horn.enable = s.horn.enable ∧ t.horn = s.hornAfter t ∧
      t.ports = s.portsAnswering l r .ok [] ∧ t.held = s.held ∧ t.time = s.time ∧ t.map = s.map ∧
      t.supply = s.supply ∧ t.pending = s.pending

/-! ### Keys -/

/-- An ACK or RESET press that acts locally outside a lamp test delivers its event, by the operator, to the visible
records concerned, a set fixed before any member changes; a SILENCE press that acts locally silences the visible
unacknowledged records (R104–R107, R111). The clock's moves are the model's choice (assumption 1). -/
def Obligations.LocalPressesAct : Prop :=
  ∀ (s : State) (began : Nat), s.ready →
    (s.keys.timing.ack = some began → s.keys.debounced.ack = .opened → s.actsLocally .ack →
      s.panel.lamp.running = false →
      let now := (s.recognisedAt .ack .closed began).chordPressed .reset
      ∃ t, exec .ackKeyPress s = .next t ∧ Delivered now t .ack .operator s.visibleUnacknowledged ∧
        t.ports = s.ports) ∧
    (s.keys.timing.reset = some began → s.keys.debounced.reset = .opened → s.actsLocally .reset →
      s.panel.lamp.running = false →
      let now := (s.recognisedAt .reset .closed began).chordPressed .ack
      ∃ t, exec .resetKeyPress s = .next t ∧ Delivered now t .reset .operator s.visibleAwaitingReset ∧
        t.ports = s.ports) ∧
    (s.keys.timing.silence = some began → s.keys.debounced.silence = .opened → s.actsLocally .silence →
      ∃ t, exec .silenceKeyPress s = .next t ∧
        Silenced (s.recognisedAt .silence .closed began) t ∧ t.ports = s.ports)

/-- A press that the Key Port does not act on for itself adds its key to the KEY notice of the primary, if there is one
in session, and changes nothing else but the key and chord states (R104, R110, R111). The clock's moves are the model's
choice (assumption 1). -/
def Obligations.ReportedPressesReachPrimary : Prop :=
  ∀ (s : State) (k : KeyId) (began : Nat), s.ready → s.keys.timing.get k = some began →
    s.keys.debounced.get k = .opened → s.isReported k →
    let pressed := s.recognisedAt k .closed began
    let now :=
      match k with
      | .ack => pressed.chordPressed .reset
      | .reset => pressed.chordPressed .ack
      | .silence => pressed
      | .test => pressed
    let press : Instr :=
      match k with
      | .ack => .ackKeyPress
      | .reset => .resetKeyPress
      | .silence => .silenceKeyPress
      | .test => .testKeyPress
    exec press s =
      .next
        (match s.sessions.primary with
          | some p =>
            if s.inSession p then
              { now with
                sessions :=
                  { s.sessions with
                    links := s.sessions.links.set p
                      { s.session p with
                        notices := { (s.session p).notices with key := (s.session p).notices.key.set k true } } } }
            else now
          | none => now)

/-- A TEST press that acts locally starts an IDLE test for one second with its key hold set, joins a RUNNING one, and is
ignored at CRITICAL; the release clears the key hold and ends a test whose timed end has passed (R91, R92, R103, R108).
The clock's moves, and that a release at the very moment of the timed end finds it passed, are the model's choice
(assumptions 1 and 24). -/
def Obligations.TestKeyDrivesLampTest : Prop :=
  ∀ (s : State) (began : Nat), s.ready → s.keys.timing.test = some began →
    (s.keys.debounced.test = .opened → s.actsLocally .test →
      let now := s.recognisedAt .test .closed began
      let e := now.time.clock + 1000000
      (s.supply.level = .critical → exec .testKeyPress s = .next now) ∧
      (s.supply.level ≠ .critical → s.panel.lamp.running = false →
        exec .testKeyPress s =
          .next { now with
            sessions := s.lampTold .started
            panel := { s.panel with lamp := { running := true, timedEnd := some e, keyHold := true } } }) ∧
      ∀ f, s.supply.level ≠ .critical → s.panel.lamp.running = true → s.panel.lamp.timedEnd = some f →
        exec .testKeyPress s =
          .next { now with
            panel := { s.panel with lamp := { running := true, timedEnd := some (max f e), keyHold := true } } }) ∧
    (s.keys.debounced.test = .closed →
      let now := s.recognisedAt .test .opened began
      ((s.panel.lamp.running = false ∨ s.panel.lamp.keyHold = false) → exec .testKeyRelease s = .next now) ∧
      ∀ f, s.panel.lamp.running = true → s.panel.lamp.keyHold = true → s.panel.lamp.timedEnd = some f →
        (now.time.clock < f →
          exec .testKeyRelease s =
            .next { now with panel := { s.panel with lamp := { s.panel.lamp with keyHold := false } } }) ∧
        (f ≤ now.time.clock →
          exec .testKeyRelease s =
            .next { now with
              sessions := s.lampTold .ended
              panel := { s.panel with lamp := { running := false, timedEnd := none, keyHold := false } } }))

/-- A change of a key input begins the key's 20 ms where the input comes to differ from the debounced state, ends a
debounce where it comes to agree with it, and touches no other key; held in device reset the input alone changes (R100,
R101). A recognised release of ACK or RESET returns the chord timer to IDLE, and that of SILENCE acts on nothing (R103,
R111). The clock's moves are the model's choice (assumption 1). -/
def Obligations.KeyInputsAndReleases : Prop :=
  (∀ (keys : PerKey Contact) (k j : KeyId) (c : Contact), (keys.set k c).get j = if j = k then c else keys.get j) ∧
  (∀ (keys : PerKey Contact),
    [KeyId.ack, .silence, .reset, .test].map keys.get = [keys.ack, keys.silence, keys.reset, keys.test]) ∧
  (∀ (dt : Nat) (k : KeyId) (c : Contact) (s : State),
    (s.held = true →
      exec (.keyInputChange dt k c) s = .next { s with keys := { s.keys with pins := s.keys.pins.set k c } }) ∧
    (s.ready → s.keys.pins.get k = c → exec (.keyInputChange dt k c) s = .next (s.after dt)) ∧
    (s.ready → s.keys.pins.get k ≠ c →
      exec (.keyInputChange dt k c) s =
        .next { s.after dt with
          keys :=
            { s.keys with
              pins := s.keys.pins.set k c
              timing := s.keys.timing.set k
                (if s.keys.debounced.get k = c then none else some (s.time.clock + dt)) } })) ∧
  ∀ (s : State) (began : Nat), s.ready →
    (s.keys.timing.ack = some began → s.keys.debounced.ack = .closed →
      let now := s.recognisedAt .ack .opened began
      exec .ackKeyRelease s = .next { now with keys := { now.keys with chord := .idle } }) ∧
    (s.keys.timing.reset = some began → s.keys.debounced.reset = .closed →
      let now := s.recognisedAt .reset .opened began
      exec .resetKeyRelease s = .next { now with keys := { now.keys with chord := .idle } }) ∧
    (s.keys.timing.silence = some began → s.keys.debounced.silence = .closed →
      exec .silenceKeyRelease s = .next (s.recognisedAt .silence .opened began))

/-- When the chord's 4 s have elapsed the timer is FIRED, every orphan's slot is freed and every other record stands,
and a primary in session gets PURGE (R111–R113). The clock's moves are the model's choice (assumption 1). -/
def Obligations.ChordPurgesOrphans : Prop :=
  ∀ (s : State) (f : Nat), s.ready → s.keys.chord = .timing f →
    ∃ t, exec .chordFire s = .next t ∧
      (∀ j, s.surfacedInTurn t (allSlots.filter fun i => (s.slot i).isOrphan) j
        (if (s.slot j).isOrphan then (s.slot j).freed else s.slot j)) ∧
      t.table.orphanCount = 0 ∧
      t.table.arrival = s.table.arrival.filter (fun j => !(s.slot j).isOrphan) ∧ t.table.low = lowAfterFreeing s t ∧
      (∀ m, t.session m =
        { s.session m with
          changed := (s.session m).changed.filter fun j => !(s.slot j).isOrphan
          notices :=
            if s.sessions.primary = some m ∧ s.inSession m = true then { (s.session m).notices with purge := true }
            else (s.session m).notices }) ∧
      s.sameRoles t ∧ t.keys = { s.keys with chord := .fired } ∧
      t.time = { s.time with clock := max s.time.clock f } ∧ t.horn = s.hornAfter t ∧
      t.horn.enable = s.horn.enable ∧ t.ports = s.ports ∧ t.held = s.held ∧ t.map = s.map ∧ t.panel = s.panel ∧
      t.supply = s.supply ∧ t.pending = s.pending

/-! ### Timers -/

/-- A tick with no expiry due starts every lifetime and keepalive that awaits its start and takes one off every other
that runs; stopped lifetimes and all else stand (R38, R39, R151). At the boundary where a lifetime's count reaches 0 its
EXPIRE is due, and the count stands at 1 until that is taken (assumption 15). A count that is set awaits one boundary, its start, and two where it is set at the moment of a boundary (`startIn`:
assumption 17). The clock's moves are the model's choice (assumption 1). -/
def Obligations.TickCountsDown : Prop :=
  (∀ s : State, s.startIn = if s.time.clock = 100000 * (s.time.ticks + 1) then 2 else 1) ∧
  (∀ q : Record, q.expiryDue = true ↔ (q.state = .steady ∨ q.state = .new ∨ q.state = .acked) ∧
    ∃ x, q.lifetime = some x ∧ x.due = true) ∧
  (∀ (s : State) (l : Link), s.keepaliveDue l = true ↔ s.inSession l = true ∧
    ∃ k, (s.session l).keepalive = some k ∧ k.startIn = 0 ∧ k.count = 0) ∧
  ∀ s : State, s.ready → (∀ i q, s.record i = some q → q.expiryDue = false) → (∀ l, s.keepaliveDue l = false) →
    ∃ t, exec .tick s = .next t ∧
      (∀ i, t.slot i =
        match (s.slot i).content with
        | .live q =>
          if q.state = .steady ∨ q.state = .new ∨ q.state = .acked then
            { s.slot i with
              content := .live { q with
                lifetime := q.lifetime.map fun x =>
                  if x.startIn ≠ 0 then { x with startIn := x.startIn - 1 }
                  else if 1 < x.remaining then { x with remaining := x.remaining - 1 }
                  else { x with due := true } } }
          else s.slot i
        | _ => s.slot i) ∧
      (∀ m, t.session m =
        if s.inSession m then
          { s.session m with
            keepalive := (s.session m).keepalive.map fun k =>
              if k.startIn = 0 then { k with count := k.count - 1 } else { k with startIn := k.startIn - 1 } }
        else s.session m) ∧
      t.time =
        { s.time with clock := max s.time.clock (100000 * (s.time.ticks + 1)), ticks := s.time.ticks + 1 } ∧
      t.table.arrival = s.table.arrival ∧ t.table.low = s.table.low ∧ s.sameRoles t ∧ t.ports = s.ports ∧
      t.held = s.held ∧ t.map = s.map ∧ t.panel = s.panel ∧ t.keys = s.keys ∧ t.horn = s.horn ∧
      t.supply = s.supply ∧ t.pending = s.pending

/-- EXPIRE of a record whose running lifetime is due delivers the event of R29, caused by the part; a record that it moves
on keeps a lifetime stopped at 0 (R31, R38; when it is due: assumption 15). A
latch NONE outside STEADY, which no record has, acts as ACK: the model's choice (assumption 19). -/
def Obligations.ExpireDeliversEvent : Prop :=
  ∀ (s : State) (i : SlotIx) (q : Record) (x : Lifetime), s.ready → s.record i = some q →
    (q.state = .steady ∨ q.state = .new ∨ q.state = .acked) → q.lifetime = some x → x.due = true →
    ∃ t, exec (.expire i) s = .next t ∧ Applied s t .expire .part i q ∧ t.ports = s.ports

/-- The expiry of a keepalive whose count has come to 0 departs the link with LEAVE into LOST, with PEER lost to the
other link; the link's slot is emptied and its retained response kept (R140, R151, R154). That an unfetched response
goes, and the end of the failover flag, are the model's choice (assumptions 9 and 10). -/
def Obligations.KeepaliveExpiryDeparts : Prop :=
  ∀ (s : State) (l : Link) (k : Keepalive), s.ready → s.inSession l = true → (s.session l).keepalive = some k →
    k.startIn = 0 → k.count = 0 → OwnershipSound s →
    ∃ t, exec (.keepaliveExpiry l) s = .next t ∧ Departed s t l false .lost .lost ∧ t.time = s.time ∧
      t.port l = { s.port l with slot := .empty }

/-- A frame start advances the frame counter, 63 passing to 0 with a new cadence cycle, and composes the frame: a point is
on when a lamp test runs, or some group lists it at a position of its display and the display's pattern is on in the frame
(R85–R88). A group's display is the visible record's driven glyph with its state's pattern; for an empty group that is not
shed the driven positions of the idle glyph, if any, STEADY; dark in every other case (R61–R63). The frame 0 that completes
a commit is the subject of CommitCompletionCopiesMap. In each quarter of a frame one common sinks and the segments of its
points that are on source; held in device reset none is driven (R67, R89). The clock's moves and the quarters' being no
steps are the model's choice (assumptions 1 and 18). -/
def Obligations.FrameStartComposesPoints : Prop :=
  (∀ s : State, s.ready → (s.panel.frame ≠ 63 ∨ s.map.commit = .idle) →
    ∃ t, exec .frameStart s = .next t ∧
      t.panel.frame.val = (s.panel.frame.val + 1) % 64 ∧
      t.time =
        { s.time with
          clock := max s.time.clock (1000000 * s.time.cycles + 15625 * (s.panel.frame.val + 1))
          cycles := s.time.cycles + if s.panel.frame = 63 then 1 else 0 } ∧
      t.panel.points = t.compose ∧ t.map = s.map ∧
      t.panel.lamp = s.panel.lamp ∧ t.table = s.table ∧ t.sessions = s.sessions ∧ t.ports = s.ports ∧
      t.held = s.held ∧ t.keys = s.keys ∧ t.horn = s.horn ∧ t.supply = s.supply ∧ t.pending = s.pending) ∧
  ∀ s : State,
    (∀ p : Point, s.compose.get p = true ↔
      s.panel.lamp.running = true ∨
      ∃ (g : Group) (k : Nat) (positions : Byte) (pattern : Pattern),
        s.display g = .lit positions pattern ∧ (s.map.active.get g).points[k]? = some p ∧
        positions.getLsbD k = true ∧ pattern.onIn s.panel.frame = true) ∧
    (∀ g : Group,
      let e := s.map.active.get g
      let idleShown := s.table.claimList g = [] ∧ (s.supply.shedding = false ∨ s.supply.level = .normal) ∧
        ∃ k : Nat, e.idle.getLsbD k = true ∧ k < e.points.length
      let drives (positions glyph : Byte) :=
        ∀ k : Nat, positions.getLsbD k = true ↔ glyph.getLsbD k = true ∧ k < e.points.length
      (∀ i r, s.visibleSlot g = some i → s.record i = some r →
        ∃ positions, drives positions r.glyph ∧
          s.display g = .lit positions
            (match r.state with
              | .new => .fast
              | .acked => .steady
              | .steady => .steady
              | .clearedNew => .slow
              | .awaitReset => .wink)) ∧
      (idleShown → ∃ positions, drives positions e.idle ∧ s.display g = .lit positions .steady) ∧
      (s.visibleSlot g = none → ¬idleShown → s.display g = .dark)) ∧
    (∀ quarter common : Fin 4, s.commonSinks quarter common = true ↔ s.held = false ∧ quarter = common) ∧
    ∀ (p : Point) (quarter : Fin 4) (segment : Fin 24), p.val = 24 * quarter.val + segment.val →
      (s.segmentSources quarter segment = true ↔ s.held = false ∧ s.panel.points.get p = true)

/-- The frame 0 that begins a cadence cycle with a commit PENDING completes it, all in one event: the staged map is copied,
every group re-decided, MAP committed placed with the primary, a waiting TAKEOVER handed over for its swap, and the frame
composed from the new map (R75–R77, R84, R88). That either of the two rows names this event, that COMMIT_COMPLETION changes
nothing before frame 63 or in IDLE, the TAKEOVER's hand-over and the clock's moves are the model's choice (assumptions 7, 2,
6 and 1). -/
def Obligations.CommitCompletionCopiesMap : Prop :=
  (∀ (c : Instr) (s : State), (c = .frameStart ∨ c = .commitCompletion) → s.ready → s.panel.frame = 63 →
    s.map.commit = .pending →
    ∃ t, exec c s = .next t ∧
      t.map = { active := s.map.staged, staged := s.map.staged, commit := .idle } ∧
      (∀ j, t.slot j = s.redecidedSlot t j) ∧ t.table.arrival = s.table.arrival ∧ t.table.low = s.table.low ∧
      (∀ m, t.session m =
        if s.sessions.primary = some m ∧ s.inSession m = true then
          { s.session m with notices := { (s.session m).notices with map := some .committed } }
        else s.session m) ∧
      t.sessions.primary = s.sessions.primary ∧ t.sessions.permit = s.sessions.permit ∧ t.sessions.waiting = none ∧
      t.sessions.takeoverDue = s.sessions.waiting ∧ t.horn = s.hornAfter t ∧ t.horn.enable = s.horn.enable ∧
      t.panel = { s.panel with frame := 0, points := t.compose } ∧
      t.time =
        { s.time with
          clock := max s.time.clock (1000000 * (s.time.cycles + 1))
          cycles := s.time.cycles + 1 } ∧
      t.ports = s.ports ∧ t.held = s.held ∧ t.keys = s.keys ∧ t.supply = s.supply ∧ t.pending = s.pending) ∧
  ∀ s : State, s.ready → (s.panel.frame ≠ 63 ∨ s.map.commit = .idle) → exec .commitCompletion s = .next s

/-- A supply sample moves level and recovery count as R123 and R124 say; a level that stays has no other effect; a
change re-decides every group, ends a lamp test at CRITICAL with LAMP ended, and places SUPPLY with every link in
session (R125, R126). The clock's moves, whole millivolts and thresholds met exactly are the model's choice (assumptions 1,
12 and 23). -/
def Obligations.SupplySampleMovesLevel : Prop :=
  ∀ (s : State) (mv : Nat), s.ready →
    let now : State :=
      { s with
        time :=
          { s.time with
            clock := max s.time.clock (500000 * (s.time.samples + 1))
            samples := s.time.samples + 1 }
        supply :=
          { s.supply with level := (s.supply.levelAfter mv).1, recovery := (s.supply.levelAfter mv).2 } }
    (now.supply.level = s.supply.level → exec (.supplySample mv) s = .next now) ∧
    (now.supply.level ≠ s.supply.level →
      let ends := s.panel.lamp.running = true ∧ now.supply.level = .critical
      ∃ t, exec (.supplySample mv) s = .next t ∧ t.supply = now.supply ∧ t.time = now.time ∧
        (∀ j, t.slot j = s.redecidedSlot t j) ∧ t.table.arrival = s.table.arrival ∧ t.table.low = s.table.low ∧
        (∀ m, t.session m =
          if s.inSession m then
            { s.session m with
              notices :=
                { (s.session m).notices with
                  supply := some now.supply.level
                  lamp := if ends ∧ s.sessions.primary = some m then some .ended
                    else (s.session m).notices.lamp } }
          else s.session m) ∧
        s.sameRoles t ∧
        (ends → t.panel = { s.panel with lamp := { running := false, timedEnd := none, keyHold := false } }) ∧
        (¬ends → t.panel = s.panel) ∧
        t.horn = s.hornAfter t ∧ t.horn.enable = s.horn.enable ∧ t.ports = s.ports ∧ t.held = s.held ∧
        t.map = s.map ∧ t.keys = s.keys ∧ t.pending = s.pending)

/-- The end of a tone's phase begins the other phase, 250 ms in ALARM_TONE and 1 s in WARNING_TONE, and changes nothing
else; the horn pair is in antiphase in a tone's on-phase alone, and low during device reset (R117). That the command changes
nothing in OFF, where no phase runs, and the clock's moves are the model's choice (assumptions 2 and 1). -/
def Obligations.HornPhasesAlternate : Prop :=
  (∀ s : State, s.hornOutput =
    if s.held = false ∧ s.horn.state ≠ .off ∧ s.horn.sounding = true then .antiphase else .low) ∧
  ∀ s : State, s.ready →
    (s.horn.state = .off → exec .hornPhaseEnd s = .next s) ∧
    (s.horn.state ≠ .off →
      exec .hornPhaseEnd s =
        .next { s with
          time := { s.time with clock := max s.time.clock s.horn.phaseEnd }
          horn :=
            { s.horn with
              sounding := !s.horn.sounding
              phaseEnd := s.horn.phaseEnd + if s.horn.state = .alarmTone then 250000 else 1000000 } })

/-- Device reset puts every block at its reset value and holds the part; the key inputs are outside it (their keeping, and
their standing OPEN in State.reset, are the model's choice: assumption 11). The release starts the time bases and the
debounce of every closed key; of a part that is not held it changes nothing (the model's choice: assumption 2) (R26, R70,
R97, R101, R120, R121, R146, R147). A link out of session holds nothing: no keepalive, failover clear, an empty mask, no
notice, an empty changed set (R147; the failover flag at a departure is assumption 10). State.reset is the part after device
reset and its release. -/
def Obligations.DeviceResetAndRelease : Prop :=
  (∀ st : SessionState, LinkSession.out st =
    { state := st, keepalive := none, failover := false, mask := 0#16, notices := .none, changed := [] }) ∧
  NoticeSet.none =
    { role := none, permit := none, peer := none, map := none, supply := none, orphans := false
      key := { ack := false, silence := false, reset := false, test := false }
      lamp := none, purge := false, adoption := none, restart := false, table := false } ∧
  (exec .deviceReset State.reset = .next { State.reset with held := true } ∧
    exec .resetRelease { State.reset with held := true } = .next State.reset ∧
    (∀ k, State.reset.keys.pins.get k = .opened) ∧ State.reset.pending = []) ∧
  (∀ s : State, ∃ t, exec .deviceReset s = .next t ∧ t.held = true ∧
    (∀ i, t.slot i = { gen := 0#8, content := .free }) ∧ t.table.arrival = [] ∧ t.table.low = false ∧
    (∀ l, t.session l = .out .offline ∧ (t.port l).slot = .empty ∧ (t.port l).retained = none ∧
      (t.port l).overrun = false ∧ (t.port l).frameError = false ∧ t.attn l = false) ∧
    (∀ quarter common segment, t.commonSinks quarter common = false ∧ t.segmentSources quarter segment = false) ∧
    t.sessions.primary = none ∧ t.sessions.permit = none ∧ t.sessions.waiting = none ∧
    t.sessions.takeoverDue = none ∧
    (∀ g, t.map.active.get g =
      { points := [Fin.ofNat 96 (4 * g.val), Fin.ofNat 96 (4 * g.val + 1), Fin.ofNat 96 (4 * g.val + 2),
          Fin.ofNat 96 (4 * g.val + 3)], idle := 0#8 }) ∧
    t.map.staged = t.map.active ∧ t.map.commit = .idle ∧
    t.panel.frame = 0 ∧ t.panel.lamp = { running := false, timedEnd := none, keyHold := false } ∧
    (∀ p, t.panel.points.get p = false) ∧
    (∀ k, t.keys.debounced.get k = .opened ∧ t.keys.timing.get k = none ∧ t.keys.modes.get k = .isLocal) ∧
    t.keys.chord = .idle ∧ t.keys.chordEnable = true ∧ t.keys.pins = s.keys.pins ∧
    t.horn.state = .off ∧ t.horn.enable = true ∧ t.hornOutput = .low ∧
    t.supply = { level := .normal, recovery := 0, shedding := true } ∧ t.pending = s.pending) ∧
  ∀ s : State,
    (s.held = false → exec .resetRelease s = .next s) ∧
    (s.held = true →
      ∃ t, exec .resetRelease s = .next t ∧ t.held = false ∧
        t.time = { clock := 0, ticks := 0, cycles := 0, samples := 0 } ∧
        (∀ k, t.keys.timing.get k = if s.keys.pins.get k = .closed then some 0 else none) ∧
        t.keys = { s.keys with timing := t.keys.timing } ∧ t.ports = s.ports ∧ t.sessions = s.sessions ∧
        t.table = s.table ∧ t.map = s.map ∧ t.panel = s.panel ∧ t.horn = s.horn ∧ t.supply = s.supply ∧
        t.pending = s.pending)

/-! ### What the Group Resolver and the Horn Driver decide -/

/-- The claim list of a group holds the LIVE records that name it, each once (R50), and of two members the first is the one
that the first telling comparison puts first: class, state rank (NEW; ACKED or STEADY; CLEARED_NEW; AWAIT_RESET), the higher
priority, the older arrival (R51). -/
def Obligations.ClaimListInPrecedenceOrder : Prop :=
  ∀ (s : State) (g : Group), TableSound s →
    let rank (st : Annunciation) : Nat :=
      match st with
      | .new => 0
      | .acked => 1
      | .steady => 1
      | .clearedNew => 2
      | .awaitReset => 3
    (s.table.claimList g).Nodup ∧
    (∀ i, i ∈ s.table.claimList g ↔ ∃ r, s.record i = some r ∧ r.group = g) ∧
    (s.table.claimList g).Pairwise fun i j => ∀ x y, s.record i = some x → s.record j = some y →
      x.cls.code < y.cls.code ∨ x.cls = y.cls ∧
        (rank x.state < rank y.state ∨ rank x.state = rank y.state ∧
          (y.priority < x.priority ∨ x.priority = y.priority ∧
            s.table.arrival.idxOf i < s.table.arrival.idxOf j))

/-- A record is visible when it is the head of its group, the group has a point, the record's glyph has a position below
the point count, and the group is not shed: shedding off or NORMAL, or an ALARM head, or a WARNING head at LOW (R55,
R56). The sets that ALL_VISIBLE requests and keys act on hold, each slot once, the visible records in NEW or CLEARED_NEW, and
those in AWAIT_RESET (R46, R47, R105–R107). A group's visible slot is that of its visible record. -/
def Obligations.VisibleMeansFourConditions : Prop :=
  (∀ st : Annunciation, st.unacknowledged = true ↔ st = .new ∨ st = .clearedNew) ∧
  (∀ s : State, s.visibleUnacknowledged.Nodup ∧ s.visibleAwaitingReset.Nodup) ∧
  (∀ (s : State) (i : SlotIx),
    (i ∈ s.visibleUnacknowledged ↔
      s.isVisible i = true ∧ ∃ r, s.record i = some r ∧ (r.state = .new ∨ r.state = .clearedNew)) ∧
    (i ∈ s.visibleAwaitingReset ↔ s.isVisible i = true ∧ ∃ r, s.record i = some r ∧ r.state = .awaitReset) ∧
    ∀ g : Group, s.visibleSlot g = some i ↔ s.isVisible i = true ∧ ∃ r, s.record i = some r ∧ r.group = g) ∧
  ∀ (s : State) (i : SlotIx), s.isVisible i = true ↔
    ∃ r, s.record i = some r ∧ (s.table.claimList r.group).head? = some i ∧
      (s.map.active.get r.group).points ≠ [] ∧
      (∃ k : Nat, r.glyph.getLsbD k = true ∧ k < (s.map.active.get r.group).points.length) ∧
      (s.supply.shedding = false ∨ s.supply.level = .normal ∨ r.cls = .alarm ∨
        (s.supply.level = .low ∧ r.cls = .warning))

/-- The frames in which each pattern is on, over a whole cadence cycle; a lit display takes its pattern from the visible
record's annunciation state, and is STEADY without one (R86). -/
def Obligations.PatternsFollowFrames : Prop :=
  (∀ f : Frame,
    Pattern.steady.onIn f = true ∧
    (Pattern.fast.onIn f = true ↔
      f.val ≤ 7 ∨ (16 ≤ f.val ∧ f.val ≤ 23) ∨ (32 ≤ f.val ∧ f.val ≤ 39) ∨ (48 ≤ f.val ∧ f.val ≤ 55)) ∧
    (Pattern.slow.onIn f = true ↔ f.val ≤ 31) ∧
    (Pattern.wink.onIn f = true ↔ f.val ≤ 7)) ∧
  ∀ (s : State) (g : Group) (positions : Byte) (pattern : Pattern), s.display g = .lit positions pattern →
    (s.visibleSlot g = none → pattern = .steady) ∧
    ∀ i r, s.visibleSlot g = some i → s.record i = some r →
      pattern =
        match r.state with
        | .new => .fast
        | .acked => .steady
        | .steady => .steady
        | .clearedNew => .slow
        | .awaitReset => .wink

/-- The horn state decided is ALARM_TONE when the horn is enabled and some visible unsilenced unacknowledged SOUND record
is an ALARM, WARNING_TONE when one is a WARNING and none an ALARM, OFF otherwise (R115). -/
def Obligations.HornStateFollowsDemand : Prop :=
  ∀ s : State,
    let demands (c : Sys2Proof.Machine.Class) := ∃ i r, s.isVisible i = true ∧ s.record i = some r ∧ r.cls = c ∧ r.horn = .sound ∧
      (r.state = .new ∨ r.state = .clearedNew) ∧ r.silenced = false
    (s.decideHorn = .alarmTone ↔ s.horn.enable = true ∧ demands .alarm) ∧
    (s.decideHorn = .warningTone ↔ s.horn.enable = true ∧ ¬demands .alarm ∧ demands .warning)

/-! ### Invariants -/

/-- Every step keeps the session and role invariant: one primary at most, named by the primary field; a permit held by a
standby alone; a wait behind a PENDING commit alone (R147, R159, R164). -/
def Obligations.StepKeepsRoles : Prop :=
  ∀ s t : State, RolesSound s → step s = .next t → RolesSound t

/-- Every step keeps the table's bookkeeping: the arrival order lists the LIVE slots once each, the low-table flag is set
exactly while at most four slots are FREE, and at most 60 LIVE records are no ALARM (R2, R9, R12, R13). -/
def Obligations.StepKeepsTable : Prop :=
  ∀ s t : State, TableSound s → step s = .next t → TableSound t

/-- Every step keeps every LIVE record within R5, R7, R8 and R27: a running count lies between 1 and its period. That it is
1 while an EXPIRE is due, and that a stopped lifetime owes none, is the model's reading (assumption 15). -/
def Obligations.StepKeepsRecords : Prop :=
  ∀ s t : State, RecordsSound s → step s = .next t → RecordsSound t

/-- Every step keeps the rules of ownership: distinct keys within an owner, every tombstone in its owner's changed set,
nothing owned or held by a link out of session (R4, R154, R170). -/
def Obligations.StepKeepsOwnership : Prop :=
  ∀ s t : State, OwnershipSound s → step s = .next t → OwnershipSound t

/-- Every step leaves the horn state as R115 decides it from the state it leaves. -/
def Obligations.StepKeepsHorn : Prop :=
  ∀ s t : State, HornSound s → step s = .next t → HornSound t

/-- Every step keeps the lamp test, the recovery count and the key states consistent (R90, R100, R101, R111, R124). -/
def Obligations.StepKeepsPanel : Prop :=
  ∀ s t : State, PanelSound s → step s = .next t → PanelSound t

/-- Every step keeps both maps within the per-group limits, and no drive point in two groups of the active map (R68,
R71). -/
def Obligations.StepKeepsMaps : Prop :=
  ∀ s t : State, MapSound s → step s = .next t → MapSound t

/-- The reset state satisfies every invariant. -/
def Obligations.ResetIsSound : Prop :=
  RolesSound State.reset ∧ TableSound State.reset ∧ RecordsSound State.reset ∧ OwnershipSound State.reset ∧
    HornSound State.reset ∧ PanelSound State.reset ∧ MapSound State.reset
end

