-- ==== Sys2Proof/Laws/State.lean ====
section
/-!
SUPPORT. One lemma per field per update of the state, each true by rfl, and the lemmas of the two record shapes that hold
one value for each link or key.
-/

namespace Sys2Proof

@[simp] theorem Link.other_other (l : Link) : l.other.other = l := by cases l <;> rfl

theorem Link.other_ne (l : Link) : l.other ≠ l := by cases l <;> decide

theorem Link.ne_other (l : Link) : l ≠ l.other := by cases l <;> decide

/-- A link is the one named or the other. -/
theorem Link.eq_or_other (l m : Link) : m = l ∨ m = l.other := by cases l <;> cases m <;> decide

end Sys2Proof

namespace Sys2Proof.Machine

variable (s : State)

/-! ### setTime -/

@[simp] theorem State.setTime_held (x : TimeBase) : (s.setTime x).held = s.held := rfl
@[simp] theorem State.setTime_time (x : TimeBase) : (s.setTime x).time = x := rfl
@[simp] theorem State.setTime_ports (x : TimeBase) : (s.setTime x).ports = s.ports := rfl
@[simp] theorem State.setTime_sessions (x : TimeBase) : (s.setTime x).sessions = s.sessions := rfl
@[simp] theorem State.setTime_table (x : TimeBase) : (s.setTime x).table = s.table := rfl
@[simp] theorem State.setTime_map (x : TimeBase) : (s.setTime x).map = s.map := rfl
@[simp] theorem State.setTime_panel (x : TimeBase) : (s.setTime x).panel = s.panel := rfl
@[simp] theorem State.setTime_keys (x : TimeBase) : (s.setTime x).keys = s.keys := rfl
@[simp] theorem State.setTime_horn (x : TimeBase) : (s.setTime x).horn = s.horn := rfl
@[simp] theorem State.setTime_supply (x : TimeBase) : (s.setTime x).supply = s.supply := rfl
@[simp] theorem State.setTime_pending (x : TimeBase) : (s.setTime x).pending = s.pending := rfl

/-! ### setPorts -/

@[simp] theorem State.setPorts_held (x : PerLink Port) : (s.setPorts x).held = s.held := rfl
@[simp] theorem State.setPorts_time (x : PerLink Port) : (s.setPorts x).time = s.time := rfl
@[simp] theorem State.setPorts_ports (x : PerLink Port) : (s.setPorts x).ports = x := rfl
@[simp] theorem State.setPorts_sessions (x : PerLink Port) : (s.setPorts x).sessions = s.sessions := rfl
@[simp] theorem State.setPorts_table (x : PerLink Port) : (s.setPorts x).table = s.table := rfl
@[simp] theorem State.setPorts_map (x : PerLink Port) : (s.setPorts x).map = s.map := rfl
@[simp] theorem State.setPorts_panel (x : PerLink Port) : (s.setPorts x).panel = s.panel := rfl
@[simp] theorem State.setPorts_keys (x : PerLink Port) : (s.setPorts x).keys = s.keys := rfl
@[simp] theorem State.setPorts_horn (x : PerLink Port) : (s.setPorts x).horn = s.horn := rfl
@[simp] theorem State.setPorts_supply (x : PerLink Port) : (s.setPorts x).supply = s.supply := rfl
@[simp] theorem State.setPorts_pending (x : PerLink Port) : (s.setPorts x).pending = s.pending := rfl

/-! ### setSessions -/

@[simp] theorem State.setSessions_held (x : SessionUnit) : (s.setSessions x).held = s.held := rfl
@[simp] theorem State.setSessions_time (x : SessionUnit) : (s.setSessions x).time = s.time := rfl
@[simp] theorem State.setSessions_ports (x : SessionUnit) : (s.setSessions x).ports = s.ports := rfl
@[simp] theorem State.setSessions_sessions (x : SessionUnit) : (s.setSessions x).sessions = x := rfl
@[simp] theorem State.setSessions_table (x : SessionUnit) : (s.setSessions x).table = s.table := rfl
@[simp] theorem State.setSessions_map (x : SessionUnit) : (s.setSessions x).map = s.map := rfl
@[simp] theorem State.setSessions_panel (x : SessionUnit) : (s.setSessions x).panel = s.panel := rfl
@[simp] theorem State.setSessions_keys (x : SessionUnit) : (s.setSessions x).keys = s.keys := rfl
@[simp] theorem State.setSessions_horn (x : SessionUnit) : (s.setSessions x).horn = s.horn := rfl
@[simp] theorem State.setSessions_supply (x : SessionUnit) : (s.setSessions x).supply = s.supply := rfl
@[simp] theorem State.setSessions_pending (x : SessionUnit) : (s.setSessions x).pending = s.pending := rfl

/-! ### setTable -/

@[simp] theorem State.setTable_held (x : Table) : (s.setTable x).held = s.held := rfl
@[simp] theorem State.setTable_time (x : Table) : (s.setTable x).time = s.time := rfl
@[simp] theorem State.setTable_ports (x : Table) : (s.setTable x).ports = s.ports := rfl
@[simp] theorem State.setTable_sessions (x : Table) : (s.setTable x).sessions = s.sessions := rfl
@[simp] theorem State.setTable_table (x : Table) : (s.setTable x).table = x := rfl
@[simp] theorem State.setTable_map (x : Table) : (s.setTable x).map = s.map := rfl
@[simp] theorem State.setTable_panel (x : Table) : (s.setTable x).panel = s.panel := rfl
@[simp] theorem State.setTable_keys (x : Table) : (s.setTable x).keys = s.keys := rfl
@[simp] theorem State.setTable_horn (x : Table) : (s.setTable x).horn = s.horn := rfl
@[simp] theorem State.setTable_supply (x : Table) : (s.setTable x).supply = s.supply := rfl
@[simp] theorem State.setTable_pending (x : Table) : (s.setTable x).pending = s.pending := rfl

/-! ### setMap -/

@[simp] theorem State.setMap_held (x : OutputMap) : (s.setMap x).held = s.held := rfl
@[simp] theorem State.setMap_time (x : OutputMap) : (s.setMap x).time = s.time := rfl
@[simp] theorem State.setMap_ports (x : OutputMap) : (s.setMap x).ports = s.ports := rfl
@[simp] theorem State.setMap_sessions (x : OutputMap) : (s.setMap x).sessions = s.sessions := rfl
@[simp] theorem State.setMap_table (x : OutputMap) : (s.setMap x).table = s.table := rfl
@[simp] theorem State.setMap_map (x : OutputMap) : (s.setMap x).map = x := rfl
@[simp] theorem State.setMap_panel (x : OutputMap) : (s.setMap x).panel = s.panel := rfl
@[simp] theorem State.setMap_keys (x : OutputMap) : (s.setMap x).keys = s.keys := rfl
@[simp] theorem State.setMap_horn (x : OutputMap) : (s.setMap x).horn = s.horn := rfl
@[simp] theorem State.setMap_supply (x : OutputMap) : (s.setMap x).supply = s.supply := rfl
@[simp] theorem State.setMap_pending (x : OutputMap) : (s.setMap x).pending = s.pending := rfl

/-! ### setPanel -/

@[simp] theorem State.setPanel_held (x : PanelDriver) : (s.setPanel x).held = s.held := rfl
@[simp] theorem State.setPanel_time (x : PanelDriver) : (s.setPanel x).time = s.time := rfl
@[simp] theorem State.setPanel_ports (x : PanelDriver) : (s.setPanel x).ports = s.ports := rfl
@[simp] theorem State.setPanel_sessions (x : PanelDriver) : (s.setPanel x).sessions = s.sessions := rfl
@[simp] theorem State.setPanel_table (x : PanelDriver) : (s.setPanel x).table = s.table := rfl
@[simp] theorem State.setPanel_map (x : PanelDriver) : (s.setPanel x).map = s.map := rfl
@[simp] theorem State.setPanel_panel (x : PanelDriver) : (s.setPanel x).panel = x := rfl
@[simp] theorem State.setPanel_keys (x : PanelDriver) : (s.setPanel x).keys = s.keys := rfl
@[simp] theorem State.setPanel_horn (x : PanelDriver) : (s.setPanel x).horn = s.horn := rfl
@[simp] theorem State.setPanel_supply (x : PanelDriver) : (s.setPanel x).supply = s.supply := rfl
@[simp] theorem State.setPanel_pending (x : PanelDriver) : (s.setPanel x).pending = s.pending := rfl

/-! ### setKeys -/

@[simp] theorem State.setKeys_held (x : KeyPort) : (s.setKeys x).held = s.held := rfl
@[simp] theorem State.setKeys_time (x : KeyPort) : (s.setKeys x).time = s.time := rfl
@[simp] theorem State.setKeys_ports (x : KeyPort) : (s.setKeys x).ports = s.ports := rfl
@[simp] theorem State.setKeys_sessions (x : KeyPort) : (s.setKeys x).sessions = s.sessions := rfl
@[simp] theorem State.setKeys_table (x : KeyPort) : (s.setKeys x).table = s.table := rfl
@[simp] theorem State.setKeys_map (x : KeyPort) : (s.setKeys x).map = s.map := rfl
@[simp] theorem State.setKeys_panel (x : KeyPort) : (s.setKeys x).panel = s.panel := rfl
@[simp] theorem State.setKeys_keys (x : KeyPort) : (s.setKeys x).keys = x := rfl
@[simp] theorem State.setKeys_horn (x : KeyPort) : (s.setKeys x).horn = s.horn := rfl
@[simp] theorem State.setKeys_supply (x : KeyPort) : (s.setKeys x).supply = s.supply := rfl
@[simp] theorem State.setKeys_pending (x : KeyPort) : (s.setKeys x).pending = s.pending := rfl

/-! ### setHorn -/

@[simp] theorem State.setHorn_held (x : HornDriver) : (s.setHorn x).held = s.held := rfl
@[simp] theorem State.setHorn_time (x : HornDriver) : (s.setHorn x).time = s.time := rfl
@[simp] theorem State.setHorn_ports (x : HornDriver) : (s.setHorn x).ports = s.ports := rfl
@[simp] theorem State.setHorn_sessions (x : HornDriver) : (s.setHorn x).sessions = s.sessions := rfl
@[simp] theorem State.setHorn_table (x : HornDriver) : (s.setHorn x).table = s.table := rfl
@[simp] theorem State.setHorn_map (x : HornDriver) : (s.setHorn x).map = s.map := rfl
@[simp] theorem State.setHorn_panel (x : HornDriver) : (s.setHorn x).panel = s.panel := rfl
@[simp] theorem State.setHorn_keys (x : HornDriver) : (s.setHorn x).keys = s.keys := rfl
@[simp] theorem State.setHorn_horn (x : HornDriver) : (s.setHorn x).horn = x := rfl
@[simp] theorem State.setHorn_supply (x : HornDriver) : (s.setHorn x).supply = s.supply := rfl
@[simp] theorem State.setHorn_pending (x : HornDriver) : (s.setHorn x).pending = s.pending := rfl

/-! ### setSupply -/

@[simp] theorem State.setSupply_held (x : SupplyMonitor) : (s.setSupply x).held = s.held := rfl
@[simp] theorem State.setSupply_time (x : SupplyMonitor) : (s.setSupply x).time = s.time := rfl
@[simp] theorem State.setSupply_ports (x : SupplyMonitor) : (s.setSupply x).ports = s.ports := rfl
@[simp] theorem State.setSupply_sessions (x : SupplyMonitor) : (s.setSupply x).sessions = s.sessions := rfl
@[simp] theorem State.setSupply_table (x : SupplyMonitor) : (s.setSupply x).table = s.table := rfl
@[simp] theorem State.setSupply_map (x : SupplyMonitor) : (s.setSupply x).map = s.map := rfl
@[simp] theorem State.setSupply_panel (x : SupplyMonitor) : (s.setSupply x).panel = s.panel := rfl
@[simp] theorem State.setSupply_keys (x : SupplyMonitor) : (s.setSupply x).keys = s.keys := rfl
@[simp] theorem State.setSupply_horn (x : SupplyMonitor) : (s.setSupply x).horn = s.horn := rfl
@[simp] theorem State.setSupply_supply (x : SupplyMonitor) : (s.setSupply x).supply = x := rfl
@[simp] theorem State.setSupply_pending (x : SupplyMonitor) : (s.setSupply x).pending = s.pending := rfl

/-! ### setPending -/

@[simp] theorem State.setPending_held (x : List Instr) : (s.setPending x).held = s.held := rfl
@[simp] theorem State.setPending_time (x : List Instr) : (s.setPending x).time = s.time := rfl
@[simp] theorem State.setPending_ports (x : List Instr) : (s.setPending x).ports = s.ports := rfl
@[simp] theorem State.setPending_sessions (x : List Instr) : (s.setPending x).sessions = s.sessions := rfl
@[simp] theorem State.setPending_table (x : List Instr) : (s.setPending x).table = s.table := rfl
@[simp] theorem State.setPending_map (x : List Instr) : (s.setPending x).map = s.map := rfl
@[simp] theorem State.setPending_panel (x : List Instr) : (s.setPending x).panel = s.panel := rfl
@[simp] theorem State.setPending_keys (x : List Instr) : (s.setPending x).keys = s.keys := rfl
@[simp] theorem State.setPending_horn (x : List Instr) : (s.setPending x).horn = s.horn := rfl
@[simp] theorem State.setPending_supply (x : List Instr) : (s.setPending x).supply = s.supply := rfl
@[simp] theorem State.setPending_pending (x : List Instr) : (s.setPending x).pending = x := rfl

/-! ### after -/

@[simp] theorem State.after_held (dt : Nat) : (s.after dt).held = s.held := rfl
@[simp] theorem State.after_time (dt : Nat) : (s.after dt).time = { s.time with clock := s.time.clock + dt } := rfl
@[simp] theorem State.after_ports (dt : Nat) : (s.after dt).ports = s.ports := rfl
@[simp] theorem State.after_sessions (dt : Nat) : (s.after dt).sessions = s.sessions := rfl
@[simp] theorem State.after_table (dt : Nat) : (s.after dt).table = s.table := rfl
@[simp] theorem State.after_map (dt : Nat) : (s.after dt).map = s.map := rfl
@[simp] theorem State.after_panel (dt : Nat) : (s.after dt).panel = s.panel := rfl
@[simp] theorem State.after_keys (dt : Nat) : (s.after dt).keys = s.keys := rfl
@[simp] theorem State.after_horn (dt : Nat) : (s.after dt).horn = s.horn := rfl
@[simp] theorem State.after_supply (dt : Nat) : (s.after dt).supply = s.supply := rfl
@[simp] theorem State.after_pending (dt : Nat) : (s.after dt).pending = s.pending := rfl

/-! ### reach -/

@[simp] theorem State.reach_held (t : Nat) : (s.reach t).held = s.held := rfl
@[simp] theorem State.reach_time (t : Nat) : (s.reach t).time = { s.time with clock := max s.time.clock t } := rfl
@[simp] theorem State.reach_ports (t : Nat) : (s.reach t).ports = s.ports := rfl
@[simp] theorem State.reach_sessions (t : Nat) : (s.reach t).sessions = s.sessions := rfl
@[simp] theorem State.reach_table (t : Nat) : (s.reach t).table = s.table := rfl
@[simp] theorem State.reach_map (t : Nat) : (s.reach t).map = s.map := rfl
@[simp] theorem State.reach_panel (t : Nat) : (s.reach t).panel = s.panel := rfl
@[simp] theorem State.reach_keys (t : Nat) : (s.reach t).keys = s.keys := rfl
@[simp] theorem State.reach_horn (t : Nat) : (s.reach t).horn = s.horn := rfl
@[simp] theorem State.reach_supply (t : Nat) : (s.reach t).supply = s.supply := rfl
@[simp] theorem State.reach_pending (t : Nat) : (s.reach t).pending = s.pending := rfl

/-! ### setPort -/

@[simp] theorem State.setPort_held (l : Link) (p : Port) : (s.setPort l p).held = s.held := rfl
@[simp] theorem State.setPort_time (l : Link) (p : Port) : (s.setPort l p).time = s.time := rfl
@[simp] theorem State.setPort_ports (l : Link) (p : Port) : (s.setPort l p).ports = s.ports.set l p := rfl
@[simp] theorem State.setPort_sessions (l : Link) (p : Port) : (s.setPort l p).sessions = s.sessions := rfl
@[simp] theorem State.setPort_table (l : Link) (p : Port) : (s.setPort l p).table = s.table := rfl
@[simp] theorem State.setPort_map (l : Link) (p : Port) : (s.setPort l p).map = s.map := rfl
@[simp] theorem State.setPort_panel (l : Link) (p : Port) : (s.setPort l p).panel = s.panel := rfl
@[simp] theorem State.setPort_keys (l : Link) (p : Port) : (s.setPort l p).keys = s.keys := rfl
@[simp] theorem State.setPort_horn (l : Link) (p : Port) : (s.setPort l p).horn = s.horn := rfl
@[simp] theorem State.setPort_supply (l : Link) (p : Port) : (s.setPort l p).supply = s.supply := rfl
@[simp] theorem State.setPort_pending (l : Link) (p : Port) : (s.setPort l p).pending = s.pending := rfl

/-! ### setSession -/

@[simp] theorem State.setSession_held (l : Link) (x : LinkSession) : (s.setSession l x).held = s.held := rfl
@[simp] theorem State.setSession_time (l : Link) (x : LinkSession) : (s.setSession l x).time = s.time := rfl
@[simp] theorem State.setSession_ports (l : Link) (x : LinkSession) : (s.setSession l x).ports = s.ports := rfl
@[simp] theorem State.setSession_sessions (l : Link) (x : LinkSession) : (s.setSession l x).sessions = { s.sessions with links := s.sessions.links.set l x } := rfl
@[simp] theorem State.setSession_table (l : Link) (x : LinkSession) : (s.setSession l x).table = s.table := rfl
@[simp] theorem State.setSession_map (l : Link) (x : LinkSession) : (s.setSession l x).map = s.map := rfl
@[simp] theorem State.setSession_panel (l : Link) (x : LinkSession) : (s.setSession l x).panel = s.panel := rfl
@[simp] theorem State.setSession_keys (l : Link) (x : LinkSession) : (s.setSession l x).keys = s.keys := rfl
@[simp] theorem State.setSession_horn (l : Link) (x : LinkSession) : (s.setSession l x).horn = s.horn := rfl
@[simp] theorem State.setSession_supply (l : Link) (x : LinkSession) : (s.setSession l x).supply = s.supply := rfl
@[simp] theorem State.setSession_pending (l : Link) (x : LinkSession) : (s.setSession l x).pending = s.pending := rfl

/-! ### setSlot -/

@[simp] theorem State.setSlot_held (i : SlotIx) (x : Slot) : (s.setSlot i x).held = s.held := rfl
@[simp] theorem State.setSlot_time (i : SlotIx) (x : Slot) : (s.setSlot i x).time = s.time := rfl
@[simp] theorem State.setSlot_ports (i : SlotIx) (x : Slot) : (s.setSlot i x).ports = s.ports := rfl
@[simp] theorem State.setSlot_sessions (i : SlotIx) (x : Slot) : (s.setSlot i x).sessions = s.sessions := rfl
@[simp] theorem State.setSlot_table (i : SlotIx) (x : Slot) : (s.setSlot i x).table = { s.table with slots := s.table.slots.set i.val x i.isLt } := rfl
@[simp] theorem State.setSlot_map (i : SlotIx) (x : Slot) : (s.setSlot i x).map = s.map := rfl
@[simp] theorem State.setSlot_panel (i : SlotIx) (x : Slot) : (s.setSlot i x).panel = s.panel := rfl
@[simp] theorem State.setSlot_keys (i : SlotIx) (x : Slot) : (s.setSlot i x).keys = s.keys := rfl
@[simp] theorem State.setSlot_horn (i : SlotIx) (x : Slot) : (s.setSlot i x).horn = s.horn := rfl
@[simp] theorem State.setSlot_supply (i : SlotIx) (x : Slot) : (s.setSlot i x).supply = s.supply := rfl
@[simp] theorem State.setSlot_pending (i : SlotIx) (x : Slot) : (s.setSlot i x).pending = s.pending := rfl

/-! ### setArrival -/

@[simp] theorem State.setArrival_held (q : List SlotIx) : (s.setArrival q).held = s.held := rfl
@[simp] theorem State.setArrival_time (q : List SlotIx) : (s.setArrival q).time = s.time := rfl
@[simp] theorem State.setArrival_ports (q : List SlotIx) : (s.setArrival q).ports = s.ports := rfl
@[simp] theorem State.setArrival_sessions (q : List SlotIx) : (s.setArrival q).sessions = s.sessions := rfl
@[simp] theorem State.setArrival_table (q : List SlotIx) : (s.setArrival q).table = { s.table with arrival := q } := rfl
@[simp] theorem State.setArrival_map (q : List SlotIx) : (s.setArrival q).map = s.map := rfl
@[simp] theorem State.setArrival_panel (q : List SlotIx) : (s.setArrival q).panel = s.panel := rfl
@[simp] theorem State.setArrival_keys (q : List SlotIx) : (s.setArrival q).keys = s.keys := rfl
@[simp] theorem State.setArrival_horn (q : List SlotIx) : (s.setArrival q).horn = s.horn := rfl
@[simp] theorem State.setArrival_supply (q : List SlotIx) : (s.setArrival q).supply = s.supply := rfl
@[simp] theorem State.setArrival_pending (q : List SlotIx) : (s.setArrival q).pending = s.pending := rfl

/-! ### setLamp -/

@[simp] theorem State.setLamp_held (x : Lamp) : (s.setLamp x).held = s.held := rfl
@[simp] theorem State.setLamp_time (x : Lamp) : (s.setLamp x).time = s.time := rfl
@[simp] theorem State.setLamp_ports (x : Lamp) : (s.setLamp x).ports = s.ports := rfl
@[simp] theorem State.setLamp_sessions (x : Lamp) : (s.setLamp x).sessions = s.sessions := rfl
@[simp] theorem State.setLamp_table (x : Lamp) : (s.setLamp x).table = s.table := rfl
@[simp] theorem State.setLamp_map (x : Lamp) : (s.setLamp x).map = s.map := rfl
@[simp] theorem State.setLamp_panel (x : Lamp) : (s.setLamp x).panel = { s.panel with lamp := x } := rfl
@[simp] theorem State.setLamp_keys (x : Lamp) : (s.setLamp x).keys = s.keys := rfl
@[simp] theorem State.setLamp_horn (x : Lamp) : (s.setLamp x).horn = s.horn := rfl
@[simp] theorem State.setLamp_supply (x : Lamp) : (s.setLamp x).supply = s.supply := rfl
@[simp] theorem State.setLamp_pending (x : Lamp) : (s.setLamp x).pending = s.pending := rfl

/-! ### One value for each link, one for each key -/

@[simp] theorem PerLink.get_set_same {α : Type} (p : PerLink α) (l : Link) (x : α) : (p.set l x).get l = x := by
  cases l <;> rfl

theorem PerLink.get_set_of_ne {α : Type} (p : PerLink α) {l m : Link} (h : m ≠ l) (x : α) :
    (p.set l x).get m = p.get m := by
  cases l <;> cases m <;> first | rfl | exact absurd rfl h

@[simp] theorem PerLink.get_set_other {α : Type} (p : PerLink α) (l : Link) (x : α) :
    (p.set l x).get l.other = p.get l.other := p.get_set_of_ne l.other_ne x

@[simp] theorem PerLink.get_other_set {α : Type} (p : PerLink α) (l : Link) (x : α) :
    (p.set l.other x).get l = p.get l := p.get_set_of_ne l.ne_other x

theorem PerLink.get_set {α : Type} (p : PerLink α) (l m : Link) (x : α) :
    (p.set l x).get m = if m = l then x else p.get m := by
  cases l <;> cases m <;> rfl

@[simp] theorem PerLink.set_get {α : Type} (p : PerLink α) (l : Link) : p.set l (p.get l) = p := by
  cases l <;> rfl

@[simp] theorem PerLink.set_set {α : Type} (p : PerLink α) (l : Link) (x y : α) :
    (p.set l x).set l y = p.set l y := by
  cases l <;> rfl

theorem PerLink.set_comm {α : Type} (p : PerLink α) {l m : Link} (h : m ≠ l) (x y : α) :
    (p.set l x).set m y = (p.set m y).set l x := by
  cases l <;> cases m <;> first | rfl | exact absurd rfl h

/-- Two of them are equal when they hold the same value for every link. -/
theorem PerLink.ext_get {α : Type} {p q : PerLink α} (h : ∀ l, p.get l = q.get l) : p = q := by
  cases p; cases q; simpa [PerLink.get] using And.intro (h .a) (h .b)

theorem PerKey.get_set {α : Type} (p : PerKey α) (k j : KeyId) (x : α) :
    (p.set k x).get j = if j = k then x else p.get j := by
  cases k <;> cases j <;> rfl

end Sys2Proof.Machine
end

