-- ==== Sys2Proof/Laws/Slots.lean ====
section
/-!
SUPPORT. Reading links, slots and records back after the updates of Machine/Ops.lean.
-/

namespace Sys2Proof.Machine

/-! ### Links -/

@[simp] theorem State.session_setSession_same (s : State) (l : Link) (x : LinkSession) :
    (s.setSession l x).session l = x := by
  simp [State.session]

theorem State.session_setSession (s : State) (l m : Link) (x : LinkSession) :
    (s.setSession l x).session m = if m = l then x else s.session m := by
  simp [State.session, PerLink.get_set]

@[simp] theorem State.setSession_session (s : State) (l : Link) : s.setSession l (s.session l) = s := by
  simp [State.setSession, State.session, State.setSessions]

@[simp] theorem State.port_setPort_same (s : State) (l : Link) (p : Port) : (s.setPort l p).port l = p := by
  simp [State.port]

theorem State.port_setPort (s : State) (l m : Link) (p : Port) :
    (s.setPort l p).port m = if m = l then p else s.port m := by
  simp [State.port, PerLink.get_set]

/-- A session is read from the Session Unit alone. -/
theorem State.session_congr {s t : State} (h : t.sessions = s.sessions) (l : Link) : t.session l = s.session l := by
  simp [State.session, h]

theorem State.inSession_congr {s t : State} (h : t.sessions = s.sessions) (l : Link) :
    t.inSession l = s.inSession l := by
  simp [State.inSession, State.session, h]

theorem State.port_congr {s t : State} (h : t.ports = s.ports) (l : Link) : t.port l = s.port l := by
  simp [State.port, h]

/-! ### Slots -/

theorem Table.slot_set (t : Table) (i j : SlotIx) (x : Slot) :
    ({ t with slots := t.slots.set i.val x i.isLt } : Table).slot j = if j = i then x else t.slot j := by
  rcases eq_or_ne j i with h | h
  · subst h; simp [Table.slot, Vector.get_eq_getElem]
  · have : ¬i.val = j.val := fun e => h (Fin.ext e.symm)
    simp [Table.slot, Vector.get_eq_getElem, h, this]

theorem State.slot_setSlot (s : State) (i j : SlotIx) (x : Slot) :
    (s.setSlot i x).slot j = if j = i then x else s.slot j :=
  Table.slot_set s.table i j x

theorem State.slot_setContent (s : State) (i j : SlotIx) (c : Content) :
    (s.setContent i c).slot j = if j = i then { s.slot i with content := c } else s.slot j :=
  s.slot_setSlot i j _

theorem State.slot_setRecord (s : State) (i j : SlotIx) (r : Record) :
    (s.setRecord i r).slot j = if j = i then { s.slot i with content := .live r } else s.slot j :=
  s.slot_setSlot i j _

/-- A slot is read from the table alone. -/
theorem State.slot_congr {s t : State} (h : t.table.slots = s.table.slots) (i : SlotIx) : t.slot i = s.slot i := by
  simp [State.slot, Table.slot, h]

theorem State.record_congr {s t : State} (h : t.table.slots = s.table.slots) (i : SlotIx) : t.record i = s.record i := by
  simp [State.record, Table.record, Table.slot, h]

/-- The record of a slot by the slot's contents. -/
theorem State.record_eq_some {s : State} {i : SlotIx} {r : Record} :
    s.record i = some r ↔ (s.slot i).content = .live r := by
  unfold State.record Table.record State.slot
  cases (s.table.slot i).content <;> simp

theorem State.record_of_slot {s t : State} {i : SlotIx} (h : t.slot i = s.slot i) : t.record i = s.record i := by
  have : t.table.slot i = s.table.slot i := h
  simp [State.record, Table.record, this]

theorem State.record_setContent (s : State) (i j : SlotIx) (c : Content) :
    (s.setContent i c).record j =
      if j = i then (match c with | .live r => some r | _ => none) else s.record j := by
  have h := s.slot_setContent i j c
  change (s.setContent i c).table.slot j = _ at h
  simp only [State.record, Table.record, h]
  by_cases e : j = i
  · subst e; cases c <;> simp
  · simp [e, State.slot]

theorem State.record_setRecord (s : State) (i j : SlotIx) (r : Record) :
    (s.setRecord i r).record j = if j = i then some r else s.record j := by
  simp [State.setRecord, State.record_setContent]

/-- The table of a state after an update of one slot. -/
@[simp] theorem State.setContent_fields (s : State) (i : SlotIx) (c : Content) :
    (s.setContent i c).held = s.held ∧ (s.setContent i c).time = s.time ∧ (s.setContent i c).ports = s.ports ∧
    (s.setContent i c).sessions = s.sessions ∧ (s.setContent i c).map = s.map ∧ (s.setContent i c).panel = s.panel ∧
    (s.setContent i c).keys = s.keys ∧ (s.setContent i c).horn = s.horn ∧ (s.setContent i c).supply = s.supply ∧
    (s.setContent i c).pending = s.pending ∧ (s.setContent i c).table.arrival = s.table.arrival ∧
    (s.setContent i c).table.low = s.table.low := by
  simp [State.setContent]

/-- Every member of a vector is mapped. -/
theorem get_mapVector {α β : Type} {n : Nat} (f : α → β) (v : Vector α n) (i : Fin n) :
    (mapVector f v).get i = f (v.get i) := by
  simp [mapVector, Vector.get, ← Array.getElem_toList]
  rfl

end Sys2Proof.Machine
end

