-- ==== Sys2Proof/Laws/Frames.lean ====
section
/-!
SUPPORT. What each shared operation leaves alone: the blocks that no operation of its kind writes.
-/

namespace Sys2Proof.Machine

@[simp] theorem State.notify_frame (s : State) (l : Link) (f : NoticeSet → NoticeSet) :
    (s.notify l f).held = s.held ∧ (s.notify l f).time = s.time ∧ (s.notify l f).ports = s.ports ∧
    (s.notify l f).table = s.table ∧ (s.notify l f).map = s.map ∧ (s.notify l f).panel = s.panel ∧
    (s.notify l f).keys = s.keys ∧ (s.notify l f).horn = s.horn ∧ (s.notify l f).supply = s.supply ∧
    (s.notify l f).pending = s.pending := by
  unfold State.notify; split <;> simp

@[simp] theorem State.notifyPrimary_frame (s : State) (f : NoticeSet → NoticeSet) :
    (s.notifyPrimary f).held = s.held ∧ (s.notifyPrimary f).time = s.time ∧ (s.notifyPrimary f).ports = s.ports ∧
    (s.notifyPrimary f).table = s.table ∧ (s.notifyPrimary f).map = s.map ∧ (s.notifyPrimary f).panel = s.panel ∧
    (s.notifyPrimary f).keys = s.keys ∧ (s.notifyPrimary f).horn = s.horn ∧ (s.notifyPrimary f).supply = s.supply ∧
    (s.notifyPrimary f).pending = s.pending := by
  unfold State.notifyPrimary; split <;> simp

@[simp] theorem State.notifyBoth_frame (s : State) (f : NoticeSet → NoticeSet) :
    (s.notifyBoth f).held = s.held ∧ (s.notifyBoth f).time = s.time ∧ (s.notifyBoth f).ports = s.ports ∧
    (s.notifyBoth f).table = s.table ∧ (s.notifyBoth f).map = s.map ∧ (s.notifyBoth f).panel = s.panel ∧
    (s.notifyBoth f).keys = s.keys ∧ (s.notifyBoth f).horn = s.horn ∧ (s.notifyBoth f).supply = s.supply ∧
    (s.notifyBoth f).pending = s.pending := by
  simp [State.notifyBoth]

@[simp] theorem State.joinChanged_frame (s : State) (l : Link) (i : SlotIx) :
    (s.joinChanged l i).held = s.held ∧ (s.joinChanged l i).time = s.time ∧ (s.joinChanged l i).ports = s.ports ∧
    (s.joinChanged l i).table = s.table ∧ (s.joinChanged l i).map = s.map ∧ (s.joinChanged l i).panel = s.panel ∧
    (s.joinChanged l i).keys = s.keys ∧ (s.joinChanged l i).horn = s.horn ∧ (s.joinChanged l i).supply = s.supply ∧
    (s.joinChanged l i).pending = s.pending := by
  simp [State.joinChanged]

@[simp] theorem State.leaveChanged_frame (s : State) (l : Link) (i : SlotIx) :
    (s.leaveChanged l i).held = s.held ∧ (s.leaveChanged l i).time = s.time ∧
    (s.leaveChanged l i).ports = s.ports ∧ (s.leaveChanged l i).table = s.table ∧
    (s.leaveChanged l i).map = s.map ∧ (s.leaveChanged l i).panel = s.panel ∧ (s.leaveChanged l i).keys = s.keys ∧
    (s.leaveChanged l i).horn = s.horn ∧ (s.leaveChanged l i).supply = s.supply ∧
    (s.leaveChanged l i).pending = s.pending := by
  simp [State.leaveChanged]

@[simp] theorem State.leaveBothChanged_frame (s : State) (i : SlotIx) :
    (s.leaveBothChanged i).held = s.held ∧ (s.leaveBothChanged i).time = s.time ∧
    (s.leaveBothChanged i).ports = s.ports ∧ (s.leaveBothChanged i).table = s.table ∧
    (s.leaveBothChanged i).map = s.map ∧ (s.leaveBothChanged i).panel = s.panel ∧
    (s.leaveBothChanged i).keys = s.keys ∧ (s.leaveBothChanged i).horn = s.horn ∧
    (s.leaveBothChanged i).supply = s.supply ∧ (s.leaveBothChanged i).pending = s.pending := by
  simp [State.leaveBothChanged]

@[simp] theorem State.setRecord_frame (s : State) (i : SlotIx) (r : Record) :
    (s.setRecord i r).held = s.held ∧ (s.setRecord i r).time = s.time ∧ (s.setRecord i r).ports = s.ports ∧
    (s.setRecord i r).sessions = s.sessions ∧ (s.setRecord i r).map = s.map ∧ (s.setRecord i r).panel = s.panel ∧
    (s.setRecord i r).keys = s.keys ∧ (s.setRecord i r).horn = s.horn ∧ (s.setRecord i r).supply = s.supply ∧
    (s.setRecord i r).pending = s.pending := by
  simp [State.setRecord]

@[simp] theorem State.examineAllocation_frame (s : State) (n : Nat) :
    (s.examineAllocation n).held = s.held ∧ (s.examineAllocation n).time = s.time ∧
    (s.examineAllocation n).ports = s.ports ∧ (s.examineAllocation n).map = s.map ∧
    (s.examineAllocation n).panel = s.panel ∧ (s.examineAllocation n).keys = s.keys ∧
    (s.examineAllocation n).horn = s.horn ∧ (s.examineAllocation n).supply = s.supply ∧
    (s.examineAllocation n).pending = s.pending := by
  unfold State.examineAllocation; split <;> simp

@[simp] theorem State.examineFreeing_frame (s : State) (n : Nat) :
    (s.examineFreeing n).held = s.held ∧ (s.examineFreeing n).time = s.time ∧
    (s.examineFreeing n).ports = s.ports ∧ (s.examineFreeing n).sessions = s.sessions ∧
    (s.examineFreeing n).map = s.map ∧ (s.examineFreeing n).panel = s.panel ∧ (s.examineFreeing n).keys = s.keys ∧
    (s.examineFreeing n).horn = s.horn ∧ (s.examineFreeing n).supply = s.supply ∧
    (s.examineFreeing n).pending = s.pending := by
  unfold State.examineFreeing; split <;> simp

@[simp] theorem State.surface_frame (s : State) (g : Group) (before : State) :
    (before.surface s g).held = s.held ∧ (before.surface s g).time = s.time ∧
    (before.surface s g).ports = s.ports ∧ (before.surface s g).sessions = s.sessions ∧
    (before.surface s g).map = s.map ∧ (before.surface s g).panel = s.panel ∧ (before.surface s g).keys = s.keys ∧
    (before.surface s g).horn = s.horn ∧ (before.surface s g).supply = s.supply ∧
    (before.surface s g).pending = s.pending := by
  unfold State.surface; repeat' split
  all_goals simp

@[simp] theorem State.composeFrame_frame (s : State) :
    (s.composeFrame).held = s.held ∧ (s.composeFrame).time = s.time ∧ (s.composeFrame).ports = s.ports ∧
    (s.composeFrame).sessions = s.sessions ∧ (s.composeFrame).table = s.table ∧ (s.composeFrame).map = s.map ∧
    (s.composeFrame).keys = s.keys ∧ (s.composeFrame).horn = s.horn ∧ (s.composeFrame).supply = s.supply ∧
    (s.composeFrame).pending = s.pending := by
  simp [State.composeFrame]

@[simp] theorem State.redecideHorn_frame (s : State) :
    (s.redecideHorn).held = s.held ∧ (s.redecideHorn).time = s.time ∧ (s.redecideHorn).ports = s.ports ∧
    (s.redecideHorn).sessions = s.sessions ∧ (s.redecideHorn).table = s.table ∧ (s.redecideHorn).map = s.map ∧
    (s.redecideHorn).panel = s.panel ∧ (s.redecideHorn).keys = s.keys ∧ (s.redecideHorn).supply = s.supply ∧
    (s.redecideHorn).pending = s.pending := by
  unfold State.redecideHorn; split <;> simp

@[simp] theorem State.retireFree_frame (s : State) (i : SlotIx) :
    (s.retireFree i).held = s.held ∧ (s.retireFree i).time = s.time ∧ (s.retireFree i).ports = s.ports ∧
    (s.retireFree i).map = s.map ∧ (s.retireFree i).panel = s.panel ∧ (s.retireFree i).keys = s.keys ∧
    (s.retireFree i).horn = s.horn ∧ (s.retireFree i).supply = s.supply ∧ (s.retireFree i).pending = s.pending := by
  unfold State.retireFree; split <;> simp

@[simp] theorem State.retireTombstone_frame (s : State) (i : SlotIx) (r : Record) (o : Link) (e : Reason) :
    (s.retireTombstone i r o e).held = s.held ∧ (s.retireTombstone i r o e).time = s.time ∧
    (s.retireTombstone i r o e).ports = s.ports ∧ (s.retireTombstone i r o e).map = s.map ∧
    (s.retireTombstone i r o e).panel = s.panel ∧ (s.retireTombstone i r o e).keys = s.keys ∧
    (s.retireTombstone i r o e).horn = s.horn ∧ (s.retireTombstone i r o e).supply = s.supply ∧
    (s.retireTombstone i r o e).pending = s.pending := by
  simp [State.retireTombstone]

@[simp] theorem State.retire_frame (s : State) (c : Cause) (e : Reason) (i : SlotIx) :
    (s.retire c e i).held = s.held ∧ (s.retire c e i).time = s.time ∧ (s.retire c e i).ports = s.ports ∧
    (s.retire c e i).map = s.map ∧ (s.retire c e i).panel = s.panel ∧ (s.retire c e i).keys = s.keys ∧
    (s.retire c e i).horn = s.horn ∧ (s.retire c e i).supply = s.supply ∧ (s.retire c e i).pending = s.pending := by
  unfold State.retire; repeat' split
  all_goals simp

@[simp] theorem State.noteChange_frame (s : State) (c : Cause) (i : SlotIx) (r : Record) :
    (s.noteChange c i r).held = s.held ∧ (s.noteChange c i r).time = s.time ∧
    (s.noteChange c i r).ports = s.ports ∧ (s.noteChange c i r).table = s.table ∧
    (s.noteChange c i r).map = s.map ∧ (s.noteChange c i r).panel = s.panel ∧ (s.noteChange c i r).keys = s.keys ∧
    (s.noteChange c i r).horn = s.horn ∧ (s.noteChange c i r).supply = s.supply ∧
    (s.noteChange c i r).pending = s.pending := by
  unfold State.noteChange; repeat' split
  all_goals simp

@[simp] theorem State.noteArrival_frame (s : State) (e : RecordEvent) (i : SlotIx) :
    (s.noteArrival e i).held = s.held ∧ (s.noteArrival e i).time = s.time ∧ (s.noteArrival e i).ports = s.ports ∧
    (s.noteArrival e i).sessions = s.sessions ∧ (s.noteArrival e i).map = s.map ∧
    (s.noteArrival e i).panel = s.panel ∧ (s.noteArrival e i).keys = s.keys ∧ (s.noteArrival e i).horn = s.horn ∧
    (s.noteArrival e i).supply = s.supply ∧ (s.noteArrival e i).pending = s.pending := by
  unfold State.noteArrival; split <;> simp

@[simp] theorem State.deliver_frame (s : State) (e : RecordEvent) (c : Cause) (i : SlotIx) :
    (s.deliver e c i).held = s.held ∧ (s.deliver e c i).time = s.time ∧ (s.deliver e c i).ports = s.ports ∧
    (s.deliver e c i).map = s.map ∧ (s.deliver e c i).panel = s.panel ∧ (s.deliver e c i).keys = s.keys ∧
    (s.deliver e c i).horn = s.horn ∧ (s.deliver e c i).supply = s.supply ∧ (s.deliver e c i).pending = s.pending := by
  unfold State.deliver; repeat' split
  all_goals simp

@[simp] theorem State.silenceSlot_frame (s : State) (i : SlotIx) :
    (s.silenceSlot i).held = s.held ∧ (s.silenceSlot i).time = s.time ∧ (s.silenceSlot i).ports = s.ports ∧
    (s.silenceSlot i).sessions = s.sessions ∧ (s.silenceSlot i).map = s.map ∧ (s.silenceSlot i).panel = s.panel ∧
    (s.silenceSlot i).keys = s.keys ∧ (s.silenceSlot i).horn = s.horn ∧ (s.silenceSlot i).supply = s.supply ∧
    (s.silenceSlot i).pending = s.pending := by
  unfold State.silenceSlot; split <;> simp

@[simp] theorem State.answer_frame (s : State) (l : Link) (r : Request) (v : Result) (p : List Byte) :
    (s.answer l r v p).held = s.held ∧ (s.answer l r v p).time = s.time ∧
    (s.answer l r v p).sessions = s.sessions ∧ (s.answer l r v p).table = s.table ∧
    (s.answer l r v p).map = s.map ∧ (s.answer l r v p).panel = s.panel ∧ (s.answer l r v p).keys = s.keys ∧
    (s.answer l r v p).horn = s.horn ∧ (s.answer l r v p).supply = s.supply ∧
    (s.answer l r v p).pending = s.pending := by
  simp [State.answer]

@[simp] theorem State.answerExecuting_frame (s : State) (l : Link) (v : Result) :
    (s.answerExecuting l v).held = s.held ∧ (s.answerExecuting l v).time = s.time ∧
    (s.answerExecuting l v).sessions = s.sessions ∧ (s.answerExecuting l v).table = s.table ∧
    (s.answerExecuting l v).map = s.map ∧ (s.answerExecuting l v).panel = s.panel ∧
    (s.answerExecuting l v).keys = s.keys ∧ (s.answerExecuting l v).horn = s.horn ∧
    (s.answerExecuting l v).supply = s.supply ∧ (s.answerExecuting l v).pending = s.pending := by
  unfold State.answerExecuting; split <;> simp

@[simp] theorem State.setSessionState_frame (s : State) (l : Link) (st : SessionState) :
    (s.setSessionState l st).held = s.held ∧ (s.setSessionState l st).time = s.time ∧
    (s.setSessionState l st).ports = s.ports ∧ (s.setSessionState l st).table = s.table ∧
    (s.setSessionState l st).map = s.map ∧ (s.setSessionState l st).panel = s.panel ∧
    (s.setSessionState l st).keys = s.keys ∧ (s.setSessionState l st).horn = s.horn ∧
    (s.setSessionState l st).supply = s.supply ∧ (s.setSessionState l st).pending = s.pending := by
  simp [State.setSessionState]

@[simp] theorem State.changePrimary_frame (s : State) (p : Option Link) :
    (s.changePrimary p).held = s.held ∧ (s.changePrimary p).time = s.time ∧ (s.changePrimary p).ports = s.ports ∧
    (s.changePrimary p).table = s.table ∧ (s.changePrimary p).panel = s.panel ∧ (s.changePrimary p).keys = s.keys ∧
    (s.changePrimary p).horn = s.horn ∧ (s.changePrimary p).supply = s.supply ∧
    (s.changePrimary p).pending = s.pending := by
  simp [State.changePrimary]

@[simp] theorem State.swapRoles_frame (s : State) (l : Link) :
    (s.swapRoles l).held = s.held ∧ (s.swapRoles l).time = s.time ∧ (s.swapRoles l).ports = s.ports ∧
    (s.swapRoles l).table = s.table ∧ (s.swapRoles l).panel = s.panel ∧ (s.swapRoles l).keys = s.keys ∧
    (s.swapRoles l).horn = s.horn ∧ (s.swapRoles l).supply = s.supply ∧ (s.swapRoles l).pending = s.pending := by
  simp [State.swapRoles]

@[simp] theorem State.completeTakeover_frame (s : State) :
    (s.completeTakeover).held = s.held ∧ (s.completeTakeover).time = s.time ∧
    (s.completeTakeover).table = s.table ∧ (s.completeTakeover).panel = s.panel ∧
    (s.completeTakeover).keys = s.keys ∧ (s.completeTakeover).horn = s.horn ∧
    (s.completeTakeover).supply = s.supply ∧ (s.completeTakeover).pending = s.pending := by
  unfold State.completeTakeover; split <;> simp

@[simp] theorem State.commitEnded_frame (s : State) :
    (s.commitEnded).held = s.held ∧ (s.commitEnded).time = s.time ∧ (s.commitEnded).ports = s.ports ∧
    (s.commitEnded).table = s.table ∧ (s.commitEnded).map = s.map ∧ (s.commitEnded).panel = s.panel ∧
    (s.commitEnded).keys = s.keys ∧ (s.commitEnded).horn = s.horn ∧ (s.commitEnded).supply = s.supply ∧
    (s.commitEnded).pending = s.pending := by
  unfold State.commitEnded; split <;> simp

@[simp] theorem State.setOwner_frame (s : State) (i : SlotIx) (r : Record) (o : Option Link) :
    (s.setOwner i r o).held = s.held ∧ (s.setOwner i r o).time = s.time ∧ (s.setOwner i r o).ports = s.ports ∧
    (s.setOwner i r o).sessions = s.sessions ∧ (s.setOwner i r o).map = s.map ∧
    (s.setOwner i r o).panel = s.panel ∧ (s.setOwner i r o).keys = s.keys ∧ (s.setOwner i r o).horn = s.horn ∧
    (s.setOwner i r o).supply = s.supply ∧ (s.setOwner i r o).pending = s.pending := by
  simp [State.setOwner]

@[simp] theorem State.freeTombstones_frame (s : State) (l : Link) :
    (s.freeTombstones l).held = s.held ∧ (s.freeTombstones l).time = s.time ∧
    (s.freeTombstones l).ports = s.ports ∧ (s.freeTombstones l).sessions = s.sessions ∧
    (s.freeTombstones l).map = s.map ∧ (s.freeTombstones l).panel = s.panel ∧ (s.freeTombstones l).keys = s.keys ∧
    (s.freeTombstones l).horn = s.horn ∧ (s.freeTombstones l).supply = s.supply ∧
    (s.freeTombstones l).pending = s.pending := by
  simp [State.freeTombstones]

@[simp] theorem State.cancelRequest_frame (s : State) (l : Link) :
    (s.cancelRequest l).held = s.held ∧ (s.cancelRequest l).time = s.time ∧ (s.cancelRequest l).table = s.table ∧
    (s.cancelRequest l).map = s.map ∧ (s.cancelRequest l).panel = s.panel ∧ (s.cancelRequest l).keys = s.keys ∧
    (s.cancelRequest l).horn = s.horn ∧ (s.cancelRequest l).supply = s.supply ∧
    (s.cancelRequest l).pending = s.pending := by
  simp [State.cancelRequest]

@[simp] theorem State.closeSession_frame (s : State) (l : Link) (st : SessionState) :
    (s.closeSession l st).held = s.held ∧ (s.closeSession l st).time = s.time ∧
    (s.closeSession l st).ports = s.ports ∧ (s.closeSession l st).table = s.table ∧
    (s.closeSession l st).map = s.map ∧ (s.closeSession l st).panel = s.panel ∧
    (s.closeSession l st).keys = s.keys ∧ (s.closeSession l st).horn = s.horn ∧
    (s.closeSession l st).supply = s.supply ∧ (s.closeSession l st).pending = s.pending := by
  simp [State.closeSession]

@[simp] theorem State.promote_frame (s : State) (l : Link) :
    (s.promote l).held = s.held ∧ (s.promote l).time = s.time ∧ (s.promote l).ports = s.ports ∧
    (s.promote l).table = s.table ∧ (s.promote l).panel = s.panel ∧ (s.promote l).keys = s.keys ∧
    (s.promote l).horn = s.horn ∧ (s.promote l).supply = s.supply ∧ (s.promote l).pending = s.pending := by
  simp [State.promote]

@[simp] theorem State.primaryDeparts_frame (s : State) (l : Link) :
    (s.primaryDeparts l).held = s.held ∧ (s.primaryDeparts l).time = s.time ∧
    (s.primaryDeparts l).table = s.table ∧ (s.primaryDeparts l).panel = s.panel ∧
    (s.primaryDeparts l).keys = s.keys ∧ (s.primaryDeparts l).horn = s.horn ∧
    (s.primaryDeparts l).supply = s.supply ∧ (s.primaryDeparts l).pending = s.pending := by
  unfold State.primaryDeparts; dsimp only; repeat' split
  all_goals simp

@[simp] theorem State.tellAdoption_frame (s : State) (l : Link) (t : Tally) :
    (s.tellAdoption l t).held = s.held ∧ (s.tellAdoption l t).time = s.time ∧
    (s.tellAdoption l t).ports = s.ports ∧ (s.tellAdoption l t).table = s.table ∧
    (s.tellAdoption l t).map = s.map ∧ (s.tellAdoption l t).panel = s.panel ∧ (s.tellAdoption l t).keys = s.keys ∧
    (s.tellAdoption l t).horn = s.horn ∧ (s.tellAdoption l t).supply = s.supply ∧
    (s.tellAdoption l t).pending = s.pending := by
  unfold State.tellAdoption; split <;> simp

@[simp] theorem State.tellOrphans_frame (s : State) (n : Nat) :
    (s.tellOrphans n).held = s.held ∧ (s.tellOrphans n).time = s.time ∧ (s.tellOrphans n).ports = s.ports ∧
    (s.tellOrphans n).table = s.table ∧ (s.tellOrphans n).map = s.map ∧ (s.tellOrphans n).panel = s.panel ∧
    (s.tellOrphans n).keys = s.keys ∧ (s.tellOrphans n).horn = s.horn ∧ (s.tellOrphans n).supply = s.supply ∧
    (s.tellOrphans n).pending = s.pending := by
  unfold State.tellOrphans; split <;> simp

@[simp] theorem State.restartKeepalive_frame (s : State) (l : Link) :
    (s.restartKeepalive l).held = s.held ∧ (s.restartKeepalive l).time = s.time ∧
    (s.restartKeepalive l).ports = s.ports ∧ (s.restartKeepalive l).table = s.table ∧
    (s.restartKeepalive l).map = s.map ∧ (s.restartKeepalive l).panel = s.panel ∧
    (s.restartKeepalive l).keys = s.keys ∧ (s.restartKeepalive l).horn = s.horn ∧
    (s.restartKeepalive l).supply = s.supply ∧ (s.restartKeepalive l).pending = s.pending := by
  unfold State.restartKeepalive; split <;> simp

@[simp] theorem State.endLamp_frame (s : State) :
    (s.endLamp).held = s.held ∧ (s.endLamp).time = s.time ∧ (s.endLamp).ports = s.ports ∧
    (s.endLamp).table = s.table ∧ (s.endLamp).map = s.map ∧ (s.endLamp).keys = s.keys ∧ (s.endLamp).horn = s.horn ∧
    (s.endLamp).supply = s.supply ∧ (s.endLamp).pending = s.pending := by
  unfold State.endLamp; split <;> simp

@[simp] theorem State.startLamp_frame (s : State) (t : Nat) (h : Bool) :
    (s.startLamp t h).held = s.held ∧ (s.startLamp t h).time = s.time ∧ (s.startLamp t h).ports = s.ports ∧
    (s.startLamp t h).table = s.table ∧ (s.startLamp t h).map = s.map ∧ (s.startLamp t h).keys = s.keys ∧
    (s.startLamp t h).horn = s.horn ∧ (s.startLamp t h).supply = s.supply ∧ (s.startLamp t h).pending = s.pending := by
  unfold State.startLamp; split <;> simp

/-- A fold of an operation that leaves a part of the state alone leaves it alone. -/
theorem foldl_keeps {α β : Type} (f : State → α → State) (v : State → β) (h : ∀ s a, v (f s a) = v s) :
    ∀ (xs : List α) (s : State), v (xs.foldl f s) = v s
  | [], _ => rfl
  | x :: xs, s => (foldl_keeps f v h xs (f s x)).trans (h s x)

@[simp] theorem State.deliverAll_frame (s : State) (e : RecordEvent) (c : Cause) (is : List SlotIx) :
    (s.deliverAll e c is).held = s.held ∧ (s.deliverAll e c is).time = s.time ∧
    (s.deliverAll e c is).ports = s.ports ∧ (s.deliverAll e c is).map = s.map ∧
    (s.deliverAll e c is).panel = s.panel ∧ (s.deliverAll e c is).keys = s.keys ∧
    (s.deliverAll e c is).horn = s.horn ∧ (s.deliverAll e c is).supply = s.supply ∧
    (s.deliverAll e c is).pending = s.pending := by
  refine ⟨?_, ?_, ?_, ?_, ?_, ?_, ?_, ?_, ?_⟩ <;>
    exact foldl_keeps _ _ (fun s i => by simp) _ s

@[simp] theorem State.silenceVisible_frame (s : State) :
    (s.silenceVisible).held = s.held ∧ (s.silenceVisible).time = s.time ∧ (s.silenceVisible).ports = s.ports ∧
    (s.silenceVisible).sessions = s.sessions ∧ (s.silenceVisible).map = s.map ∧
    (s.silenceVisible).panel = s.panel ∧ (s.silenceVisible).keys = s.keys ∧ (s.silenceVisible).horn = s.horn ∧
    (s.silenceVisible).supply = s.supply ∧ (s.silenceVisible).pending = s.pending := by
  refine ⟨?_, ?_, ?_, ?_, ?_, ?_, ?_, ?_, ?_, ?_⟩ <;>
    exact foldl_keeps _ _ (fun s i => by simp) _ s

@[simp] theorem State.purgeOrphans_frame (s : State) :
    (s.purgeOrphans).held = s.held ∧ (s.purgeOrphans).time = s.time ∧ (s.purgeOrphans).ports = s.ports ∧
    (s.purgeOrphans).map = s.map ∧ (s.purgeOrphans).panel = s.panel ∧ (s.purgeOrphans).keys = s.keys ∧
    (s.purgeOrphans).horn = s.horn ∧ (s.purgeOrphans).supply = s.supply ∧ (s.purgeOrphans).pending = s.pending := by
  refine ⟨?_, ?_, ?_, ?_, ?_, ?_, ?_, ?_, ?_⟩ <;>
    exact foldl_keeps _ _ (fun s i => by simp) _ s

@[simp] theorem State.surfaceAll_frame (s : State) (before : State) :
    (before.surfaceAll s).held = s.held ∧ (before.surfaceAll s).time = s.time ∧
    (before.surfaceAll s).ports = s.ports ∧ (before.surfaceAll s).sessions = s.sessions ∧
    (before.surfaceAll s).map = s.map ∧ (before.surfaceAll s).panel = s.panel ∧
    (before.surfaceAll s).keys = s.keys ∧ (before.surfaceAll s).horn = s.horn ∧
    (before.surfaceAll s).supply = s.supply ∧ (before.surfaceAll s).pending = s.pending := by
  refine ⟨?_, ?_, ?_, ?_, ?_, ?_, ?_, ?_, ?_, ?_⟩ <;>
    exact foldl_keeps _ _ (fun s i => by simp) _ s

@[simp] theorem State.completeCommit_frame (s : State) :
    (s.completeCommit).held = s.held ∧ (s.completeCommit).time = s.time ∧ (s.completeCommit).ports = s.ports ∧
    (s.completeCommit).map = { s.map with active := s.map.staged, commit := .idle } ∧
    (s.completeCommit).panel = s.panel ∧ (s.completeCommit).keys = s.keys ∧ (s.completeCommit).supply = s.supply ∧
    (s.completeCommit).pending = s.pending := by
  simp [State.completeCommit]

@[simp] theorem State.expireSlot_frame (s : State) (i : SlotIx) :
    (s.expireSlot i).held = s.held ∧ (s.expireSlot i).time = s.time ∧ (s.expireSlot i).ports = s.ports ∧
    (s.expireSlot i).map = s.map ∧ (s.expireSlot i).panel = s.panel ∧ (s.expireSlot i).keys = s.keys ∧
    (s.expireSlot i).supply = s.supply ∧ (s.expireSlot i).pending = s.pending := by
  unfold State.expireSlot; repeat' split
  all_goals simp

end Sys2Proof.Machine
end

