-- ==== Sys2Proof/Laws/Resolver.lean ====
section
/-!
SUPPORT. What the Group Resolver's decisions depend on, and everything that surfacing can do.
-/

namespace Sys2Proof.Machine

/-- The fields of a record that bear on visibility (R51, R56): all but the silenced flag and fields that no decision of
the Resolver reads. -/
def Record.shown (r : Record) : Group × Class × Annunciation × Fin 16 × Byte :=
  (r.group, r.cls, r.state, r.priority, r.glyph)

/-- Two states in which the Resolver decides alike. -/
structure SameView (s t : State) : Prop where
  arrival : t.table.arrival = s.table.arrival
  shown : ∀ i, (t.record i).map Record.shown = (s.record i).map Record.shown
  active : t.map.active = s.map.active
  supply : t.supply.level = s.supply.level ∧ t.supply.shedding = s.supply.shedding

theorem SameView.refl (s : State) : SameView s s := ⟨rfl, fun _ => rfl, rfl, rfl, rfl⟩

theorem SameView.trans {s t u : State} (h : SameView s t) (k : SameView t u) : SameView s u :=
  ⟨k.arrival.trans h.arrival, fun i => (k.shown i).trans (h.shown i), k.active.trans h.active,
    k.supply.1.trans h.supply.1, k.supply.2.trans h.supply.2⟩

theorem SameView.symm {s t : State} (h : SameView s t) : SameView t s :=
  ⟨h.arrival.symm, fun i => (h.shown i).symm, h.active.symm, h.supply.1.symm, h.supply.2.symm⟩

/-- A record that stands in one of two states viewed alike stands, as shown, in the other. -/
theorem SameView.record {s t : State} (h : SameView s t) (i : SlotIx) :
    (t.record i = none ∧ s.record i = none) ∨
      ∃ x y, t.record i = some x ∧ s.record i = some y ∧ x.group = y.group ∧ x.cls = y.cls ∧ x.state = y.state ∧
        x.priority = y.priority ∧ x.glyph = y.glyph := by
  have k := h.shown i
  cases ht : t.record i with
  | none =>
    rw [ht] at k
    cases hs : s.record i with
    | none => exact .inl ⟨rfl, rfl⟩
    | some y => simp [hs] at k
  | some x =>
    rw [ht] at k
    cases hs : s.record i with
    | none => simp [hs] at k
    | some y =>
      simp [hs, Record.shown] at k
      exact .inr ⟨x, y, rfl, rfl, k⟩

theorem SameView.claimants {s t : State} (h : SameView s t) (g : Group) :
    t.table.claimants g = s.table.claimants g := by
  unfold Table.claimants
  rw [h.arrival]
  apply List.filter_congr
  intro i _
  rcases h.record i with ⟨a, b⟩ | ⟨x, y, a, b, e, -⟩
  · have a' : t.table.record i = none := a
    have b' : s.table.record i = none := b
    rw [a', b']
  · have a' : t.table.record i = some x := a
    have b' : s.table.record i = some y := b
    rw [a', b']; simp [e]

theorem SameView.comesBefore {s t : State} (h : SameView s t) : t.table.comesBefore = s.table.comesBefore := by
  funext i j
  unfold Table.comesBefore
  rw [h.arrival]
  rcases h.record i with ⟨a, b⟩ | ⟨x, y, a, b, -, e1, e2, e3, -⟩ <;>
    rcases h.record j with ⟨c, d⟩ | ⟨x', y', c, d, -, f1, f2, f3, -⟩ <;>
    simp only [State.record] at a b c d <;> simp_all [outranks]

theorem SameView.claimList {s t : State} (h : SameView s t) (g : Group) : t.table.claimList g = s.table.claimList g := by
  unfold Table.claimList
  rw [h.claimants, h.comesBefore]

theorem SameView.headClass {s t : State} (h : SameView s t) (g : Group) : t.headClass g = s.headClass g := by
  unfold State.headClass Table.head
  rw [h.claimList]
  cases (s.table.claimList g).head? with
  | none => rfl
  | some i =>
    rcases h.record i with ⟨a, b⟩ | ⟨x, y, a, b, -, e, -⟩ <;> simp_all

theorem SameView.visibleSlot {s t : State} (h : SameView s t) (g : Group) : t.visibleSlot g = s.visibleSlot g := by
  have hs : t.shed g = s.shed g := by simp [State.shed, h.headClass, h.supply]
  unfold State.visibleSlot Table.head State.entry
  rw [h.claimList, hs, h.active]
  cases (s.table.claimList g).head? with
  | none => rfl
  | some i =>
    rcases h.record i with ⟨a, b⟩ | ⟨x, y, a, b, -, -, -, -, e⟩ <;> simp_all

theorem SameView.isVisible {s t : State} (h : SameView s t) (i : SlotIx) : t.isVisible i = s.isVisible i := by
  unfold State.isVisible
  rcases h.record i with ⟨a, b⟩ | ⟨x, y, a, b, e, -⟩ <;> simp_all [h.visibleSlot]

theorem SameView.visibleIn {s t : State} (h : SameView s t) (want : Annunciation → Bool) :
    t.visibleIn want = s.visibleIn want := by
  unfold State.visibleIn
  congr 1
  funext g
  rw [h.visibleSlot]
  cases s.visibleSlot g with
  | none => rfl
  | some i => rcases h.record i with ⟨a, b⟩ | ⟨x, y, a, b, -, -, e, -⟩ <;> simp_all

/-- The Resolver reads the table, the active map and the supply alone. -/
theorem SameView.of_fields {s t : State} (ht : t.table = s.table) (hm : t.map.active = s.map.active)
    (hl : t.supply = s.supply) : SameView s t :=
  ⟨by rw [ht], fun i => by rw [State.record_congr (s := s) (t := t) (by rw [ht])], hm, by rw [hl], by rw [hl]⟩

/-- The horn is decided from the slots, the visible records and the enable alone. -/
theorem SameView.decideHorn {s t : State} (h : SameView s t) (hr : ∀ i, t.record i = s.record i)
    (he : t.horn.enable = s.horn.enable) : t.decideHorn = s.decideHorn := by
  have : t.demanding = s.demanding := by
    unfold State.demanding
    congr 1
    funext g
    rw [h.visibleSlot]
    cases s.visibleSlot g <;> simp [hr]
  simp [State.decideHorn, this, he]

/-! ### Surfacing -/

/-- The silenced flag of one record changed. -/
theorem SameView.silence (s : State) {i : SlotIx} {r : Record} (b : Bool) (h : s.record i = some r) :
    SameView s (s.setRecord i { r with silenced := b }) := by
  refine ⟨by simp [State.setRecord], fun j => ?_, by simp, by simp, by simp⟩
  rw [State.record_setRecord]
  split
  · next e => subst e; simp [h, Record.shown]
  · rfl

/-- Re-deciding a group does not change what is visible. -/
theorem State.surface_view (before s : State) (g : Group) : SameView s (before.surface s g) := by
  unfold State.surface
  split
  · exact .refl s
  · next i _ =>
    split
    · exact .refl s
    · split
      · exact .refl s
      · next r hr =>
        split
        · exact .silence s false hr
        · exact .refl s

/-- Everything that re-deciding a group does: a slot is as it was, but for the silenced flag of a record that surfaces. -/
theorem State.surface_slot (before s : State) (g : Group) (j : SlotIx) :
    (before.surface s g).slot j = surfacedSlot before s g j (s.slot j) := by
  unfold State.surface surfacedSlot
  cases hv : s.visibleSlot g with
  | none => cases (s.slot j).content <;> simp
  | some i =>
    simp only
    by_cases hb : before.visibleSlot g = some i
    · rw [if_pos hb]
      cases (s.slot j).content with
      | free => rfl
      | tombstone t => rfl
      | live r =>
        simp only
        rw [if_neg]
        rintro ⟨e, n, -⟩
        exact n (by rw [hb]; exact e)
    · rw [if_neg hb]
      cases hr : s.record i with
      | none =>
        simp only
        cases hc : (s.slot j).content with
        | free => rfl
        | tombstone t => rfl
        | live r =>
          simp only
          rw [if_neg]
          rintro ⟨e, -, -⟩
          injection e with e
          subst e
          rw [State.record_eq_some.mpr hc] at hr
          simp at hr
      | some r =>
        simp only
        have hc := State.record_eq_some.mp hr
        by_cases hj : j = i
        · subst hj
          rw [hc]
          simp only
          by_cases hu : r.state.unacknowledged = true
          · rw [if_pos hu, if_pos (And.intro True.intro (And.intro hb hu)), State.slot_setRecord, if_pos rfl]
          · rw [if_neg hu, if_neg (fun h => hu h.2.2)]
        · have hs : (if r.state.unacknowledged = true then s.setRecord i { r with silenced := false } else s).slot j =
              s.slot j := by
            split
            · rw [State.slot_setRecord, if_neg hj]
            · rfl
          rw [hs]
          cases (s.slot j).content with
          | free => rfl
          | tombstone t => rfl
          | live q =>
            simp only
            rw [if_neg]
            rintro ⟨e, -, -⟩
            injection e with e
            exact hj e.symm

/-- Whether a slot surfaces depends on what is visible after the event alone. -/
theorem surfacedSlot_congr {before s t : State} {g : Group} (h : t.visibleSlot g = s.visibleSlot g) (j : SlotIx)
    (x : Slot) : surfacedSlot before t g j x = surfacedSlot before s g j x := by
  unfold surfacedSlot
  rw [h]

@[simp] theorem State.surface_low (before s : State) (g : Group) :
    (before.surface s g).table.low = s.table.low := by
  unfold State.surface
  repeat' split
  all_goals simp [State.setRecord]

@[simp] theorem State.surface_arrival (before s : State) (g : Group) :
    (before.surface s g).table.arrival = s.table.arrival :=
  (State.surface_view before s g).arrival

/-- What surfacing makes of a slot has the contents' kind. -/
theorem surfacedSlot_kind (s t : State) (g : Group) (j : SlotIx) (x : Slot) :
    (surfacedSlot s t g j x).gen = x.gen ∧ (surfacedSlot s t g j x).isFree = x.isFree ∧
    (surfacedSlot s t g j x).isLive = x.isLive ∧ (surfacedSlot s t g j x).isTombstone = x.isTombstone ∧
    (surfacedSlot s t g j x).isOrphan = x.isOrphan := by
  unfold surfacedSlot
  cases hx : x.content with
  | free => simp
  | tombstone t => simp
  | live r => simp only; split <;> simp [Slot.isFree, Slot.isLive, Slot.isTombstone, Slot.isOrphan, hx]

/-- `y` is `x`, but for a silenced flag that surfacing has cleared (R58). -/
def Slot.sameButSurfaced (x y : Slot) : Prop :=
  y = x ∨ ∃ r, x.content = .live r ∧ y = { x with content := .live { r with silenced := false } }

/-- Surfacing changes a slot in its silenced flag alone. -/
theorem surfacedSlot_same (s t : State) (g : Group) (j : SlotIx) (x : Slot) :
    x.sameButSurfaced (surfacedSlot s t g j x) := by
  unfold surfacedSlot
  cases hx : x.content with
  | free => exact .inl rfl
  | tombstone t => exact .inl rfl
  | live r =>
    simp only
    split
    · exact .inr ⟨r, hx, rfl⟩
    · exact .inl rfl

/-- Counts over the slots depend on each slot's kind alone. -/
theorem Table.count_congr {t u : Table} {p : Slot → Bool} (h : ∀ i, p (t.slot i) = p (u.slot i)) :
    t.slots.toList.countP p = u.slots.toList.countP p := by
  have e : ∀ t : Table, t.slots.toList.countP p = (List.finRange 64).countP fun i => p (t.slot i) := by
    intro t
    have : t.slots.toList = (List.finRange 64).map t.slot := by
      apply List.ext_getElem
      · simp
      · intro n h1 h2
        simp [Table.slot, Vector.get_eq_getElem]
    rw [this, List.countP_map]
    rfl
  rw [e t, e u]
  apply List.countP_congr
  intro i _
  simp [h i]

@[simp] theorem State.surface_freeCount (before s : State) (g : Group) :
    (before.surface s g).table.freeCount = s.table.freeCount := by
  apply Table.count_congr
  intro i
  have h := State.surface_slot before s g i
  change (before.surface s g).table.slot i = surfacedSlot before s g i (s.slot i) at h
  rw [h, (surfacedSlot_kind ..).2.1]
  rfl

/-! ### The horn -/

/-- After the horn is re-decided its state is the one R115 decides, and a state left as it was keeps its tone. -/
theorem State.redecideHorn_spec (s : State) :
    s.redecideHorn.horn.state = s.redecideHorn.decideHorn ∧ s.redecideHorn.horn.enable = s.horn.enable ∧
      (s.redecideHorn.horn.state = s.horn.state → s.redecideHorn.horn = s.horn) := by
  have henter : ∀ st c, (s.horn.enter st c).state = st ∧ (s.horn.enter st c).enable = s.horn.enable := by
    intro st c; cases st <;> exact ⟨rfl, rfl⟩
  have hd : ∀ x : HornDriver, x.enable = s.horn.enable → (s.setHorn x).decideHorn = s.decideHorn := fun x hx =>
    (SameView.of_fields (s := s) (t := s.setHorn x) (by simp) (by simp) (by simp)).decideHorn (fun _ => rfl) hx
  unfold State.redecideHorn
  by_cases h : s.decideHorn = s.horn.state
  · rw [if_pos h]; exact ⟨h.symm, rfl, fun _ => rfl⟩
  · rw [if_neg h]
    refine ⟨?_, ?_, fun e => absurd ?_ h⟩
    · rw [hd _ (henter ..).2]; exact (henter ..).1
    · exact (henter ..).2
    · exact (henter ..).1.symm.trans e

/-- The horn re-decided from `s`, where nothing has touched it since: a state kept keeps its phase, a tone entered begins an
on-phase at once (R117). -/
theorem State.redecideHorn_hornAfter (s : State) : s.redecideHorn.horn = s.hornAfter s.redecideHorn := by
  obtain ⟨hs, he, -⟩ := s.redecideHorn_spec
  have hd : s.redecideHorn.decideHorn = s.decideHorn := by
    by_cases h : s.decideHorn = s.horn.state
    · simp [State.redecideHorn, h]
    · rw [← hs]
      unfold State.redecideHorn
      rw [if_neg h]
      cases s.decideHorn <;> rfl
  have ht : s.redecideHorn.time = s.time := s.redecideHorn_frame.2.1
  unfold State.hornAfter
  rw [hd, ht, he]
  by_cases h : s.decideHorn = s.horn.state
  · simp [State.redecideHorn, h]
  · rw [if_neg h]
    unfold State.redecideHorn
    rw [if_neg h]
    cases s.decideHorn <;> rfl

theorem State.redecideHorn_view (s : State) : SameView s s.redecideHorn :=
  .of_fields (by simp) (by simp) (by simp)

end Sys2Proof.Machine
end

