-- ==== Sys2Proof/Laws/Taking.lean ====
section
/-!
SUPPORT. How a command is taken and a request answered: what takeInside, takeOutside, takeRequest and the checks of R181
come to under the hypotheses that the statements name.
-/

namespace Sys2Proof.Machine

theorem State.completeTakeover_none {s : State} (h : s.sessions.takeoverDue = none) : s.completeTakeover = s := by
  simp [State.completeTakeover, h]

theorem State.completeTakeover_ready {s : State} (h : s.ready) : s.completeTakeover = s :=
  s.completeTakeover_none h.2

/-- An event inside a part that is ready is taken at once. -/
theorem takeInside_ready {s : State} (h : s.ready) (f : State → State) : takeInside s f = .next (f s) := by
  simp [takeInside, h.1, State.completeTakeover_ready h]

/-- An outside command of a part that is ready is taken at its moment. -/
theorem takeOutside_ready {s : State} (h : s.ready) (dt : Nat) (f : State → State) :
    takeOutside dt s f = .next (f (s.after dt)) :=
  takeInside_ready h _

/-- Held in device reset, a part takes no event. -/
theorem takeInside_held {s : State} (h : s.held = true) (f : State → State) : takeInside s f = .next s := by
  simp [takeInside, h]

/-- Every command taken completes. -/
theorem takeInside_next (s : State) (f : State → State) : ∃ t, takeInside s f = .next t := by
  unfold takeInside; split <;> exact ⟨_, rfl⟩

theorem State.executing_of_asks {s : State} {l : Link} {r : Request} (h : s.asks l r) : s.executing l = some r := by
  simp [State.executing, h.2.2]

/-- A request of the row that is asked executes and is answered. -/
theorem takeRequest_asks {s : State} {l : Link} {r : Request} (h : s.asks l r) {row : Request → Bool}
    (hr : row r = true) (body : List Byte → State → Reply) :
    takeRequest l s row body = .next ((body r.payload s).finish l r) := by
  unfold takeRequest
  rw [takeInside_ready h.1]
  simp [State.execute, State.executing_of_asks h, hr, h.2.1]

/-- An answer writes the ports alone (R138). -/
theorem State.answer_eq (s : State) (l : Link) (r : Request) (v : Result) (p : List Byte) :
    s.answer l r v p = { s with ports := s.portsAnswering l r v p } :=
  rfl

@[simp] theorem Reply.refused_finish (s : State) (v : Result) (l : Link) (r : Request) :
    (Reply.refused s v).finish l r = s.refusing l r v :=
  rfl

@[simp] theorem Reply.ok_finish (s : State) (p : List Byte) (l : Link) (r : Request) :
    (Reply.ok s p).finish l r = { s with ports := s.portsAnswering l r .ok p } :=
  rfl

@[simp] theorem Reply.waits_finish (s : State) (l : Link) (r : Request) : (Reply.waits s).finish l r = s :=
  rfl

/-! ### The checks of R181 that pass or fail -/

theorem needSession_pass {s : State} {l : Link} (h : s.inSession l = true) (k : Reply) : needSession s l k = k := by
  simp [needSession, h]

theorem needSession_fail {s : State} {l : Link} (h : s.inSession l = false) (k : Reply) :
    needSession s l k = .refused s .noSession := by
  simp [needSession, h]

theorem State.isPrimary_iff {s : State} {l : Link} : s.isPrimary l = true ↔ s.sessions.primary = some l := by
  simp [State.isPrimary]

theorem needPrimary_pass {s : State} {l : Link} (h : s.sessions.primary = some l) (k : Reply) :
    needPrimary s l k = k := by
  simp [needPrimary, State.isPrimary, h]

theorem needPrimary_fail {s : State} {l : Link} (h : s.sessions.primary ≠ some l) (k : Reply) :
    needPrimary s l k = .refused s .denied := by
  have : s.isPrimary l = false := by simpa [State.isPrimary] using h
  simp [needPrimary, this]

@[simp] theorem needPayload_some {α : Type} (s : State) (x : α) (k : α → Reply) : needPayload s (some x) k = k x := rfl

@[simp] theorem needPayload_none {α : Type} (s : State) (k : α → Reply) :
    needPayload s none k = .refused s .badRequest := rfl

theorem needRecord_pass {s : State} {h : Handle} {q : Record} (e : s.table.resolve h = some q) (k : Record → Reply) :
    needRecord s h k = k q := by
  simp [needRecord, e]

theorem needRecord_fail {s : State} {h : Handle} (e : s.table.resolve h = none) (k : Record → Reply) :
    needRecord s h k = .refused s .staleHandle := by
  simp [needRecord, e]

theorem needOwner_pass {s : State} {q : Record} {o : Option Link} (e : q.owner = o) (k : Reply) :
    needOwner s q o k = k := by
  simp [needOwner, e]

theorem needOwner_fail {s : State} {q : Record} {o : Option Link} (e : q.owner ≠ o) (k : Reply) :
    needOwner s q o k = .refused s .notOwner := by
  simp [needOwner, e]

theorem needIdleCommit_pass {s : State} (h : s.map.commit = .idle) (k : Reply) : needIdleCommit s k = k := by
  simp [needIdleCommit, h]

theorem needIdleCommit_fail {s : State} (h : s.map.commit = .pending) (k : Reply) :
    needIdleCommit s k = .refused s .busy := by
  simp [needIdleCommit, h]

/-- What a handle resolves to stands in its slot at its generation (R3). -/
theorem Table.resolve_eq_some {t : Table} {h : Handle} {q : Record} (e : t.resolve h = some q) :
    t.record h.slot = some q ∧ (t.slot h.slot).gen = h.gen ∧ h.gen ≠ 0#8 := by
  unfold Table.resolve at e
  split at e
  · next c => exact ⟨e, c.2, c.1⟩
  · simp at e

/-! ### Payload bytes -/

theorem finOf_byteOf {n : Nat} (hn : n ≤ 256) (i : Fin n) : finOf n (byteOf i.val) = some i := by
  have h : (byteOf i.val).toNat = i.val := by
    simp [byteOf, BitVec.toNat_ofNat]; omega
  simp [finOf, h]

@[simp] theorem handleOf_byteOf (i : SlotIx) (g : Byte) : handleOf (byteOf i.val) g = some { slot := i, gen := g } := by
  simp [handleOf, finOf_byteOf (n := 64) (by omega)]

@[simp] theorem parseHandle_bytes (i : SlotIx) (g : Byte) :
    parseHandle [byteOf i.val, g] = some { slot := i, gen := g } :=
  handleOf_byteOf i g

@[simp] theorem word16_bytes (w : Word16) : word16 (highByte w) (lowByte w) = w := by
  change (w.extractLsb' 8 8 ++ w.extractLsb' 0 8 : BitVec (8 + 8)) = w
  apply BitVec.eq_of_getLsbD_eq
  intro n hn
  rw [BitVec.getLsbD_append]
  by_cases h : n < 8
  · simp [h]
  · have : 8 + (n - 8) = n := by omega
    have h8 : n - 8 < 8 := by omega
    simp [h, this, h8]

@[simp] theorem flagOf_flagByte (b : Bool) : flagOf (flagByte b) = some b := by cases b <;> rfl

end Sys2Proof.Machine
end

