-- ==== Sys2Proof/Laws/Events.lean ====
section
/-!
SUPPORT. What each shared operation does, said once: notices, changed sets, the low-table flag, retirements, the events of
R29, the lamp test.
-/

namespace Sys2Proof.Machine

/-! ### Notices and changed sets -/

theorem State.inSession_of_session {s t : State} {l : Link} (h : (t.session l).state = (s.session l).state) :
    t.inSession l = s.inSession l := by
  simp [State.inSession, h]

/-- A notice reaches one link, and only in session. -/
theorem State.notify_session (s : State) (l m : Link) (f : NoticeSet → NoticeSet) :
    (s.notify l f).session m =
      if m = l ∧ s.inSession l = true then { s.session m with notices := f (s.session m).notices } else s.session m := by
  unfold State.notify
  by_cases h : s.inSession l = true
  · rw [if_pos h, State.session_setSession]
    by_cases e : m = l
    · subst e; simp [h]
    · simp [e]
  · rw [if_neg h, if_neg (fun c => h c.2)]

theorem State.notify_roles (s : State) (l : Link) (f : NoticeSet → NoticeSet) :
    (s.notify l f).sessions.primary = s.sessions.primary ∧ (s.notify l f).sessions.permit = s.sessions.permit ∧
      (s.notify l f).sessions.waiting = s.sessions.waiting ∧
      (s.notify l f).sessions.takeoverDue = s.sessions.takeoverDue := by
  unfold State.notify
  split <;> simp [State.setSession]

theorem State.notify_inSession (s : State) (l m : Link) (f : NoticeSet → NoticeSet) :
    (s.notify l f).inSession m = s.inSession m := by
  apply State.inSession_of_session
  rw [State.notify_session]
  split <;> rfl

/-- A notice to the primary reaches it, if there is one and it is in session. -/
theorem State.notifyPrimary_session (s : State) (m : Link) (f : NoticeSet → NoticeSet) :
    (s.notifyPrimary f).session m =
      if s.sessions.primary = some m ∧ s.inSession m = true then
        { s.session m with notices := f (s.session m).notices }
      else s.session m := by
  unfold State.notifyPrimary
  cases h : s.sessions.primary with
  | none => simp
  | some p =>
    simp only [State.notify_session, Option.some.injEq]
    by_cases e : m = p
    · subst e; simp
    · rw [if_neg (fun c => e c.1), if_neg (fun c => e c.1.symm)]

/-- A notice to both reaches every link in session. -/
theorem State.notifyBoth_session (s : State) (m : Link) (f : NoticeSet → NoticeSet) :
    (s.notifyBoth f).session m =
      if s.inSession m = true then { s.session m with notices := f (s.session m).notices } else s.session m := by
  unfold State.notifyBoth
  rw [State.notify_session, State.notify_session, State.notify_inSession]
  cases m <;> simp

theorem State.joinChanged_session (s : State) (l m : Link) (i : SlotIx) :
    (s.joinChanged l i).session m =
      if m = l then { s.session m with changed := joinSlot i (s.session m).changed } else s.session m := by
  unfold State.joinChanged
  rw [State.session_setSession]
  split
  · next e => subst e; rfl
  · rfl

theorem State.leaveBothChanged_session (s : State) (m : Link) (i : SlotIx) :
    (s.leaveBothChanged i).session m = { s.session m with changed := (s.session m).changed.filter (· ≠ i) } := by
  unfold State.leaveBothChanged State.leaveChanged
  cases m <;> simp [State.session_setSession]

/-- A slot that joins is in the set, and no other slot comes or goes. -/
theorem mem_joinSlot {i j : SlotIx} {c : List SlotIx} : j ∈ joinSlot i c ↔ j = i ∨ j ∈ c := by
  unfold joinSlot
  split
  · next h => exact ⟨.inr, fun e => e.elim (fun e => e ▸ h) id⟩
  · exact List.mem_orderedInsert _

/-! ### The low-table flag -/

/-- A freeing clears the flag where it brings the free count to 5 or above, and does nothing else. -/
theorem State.examineFreeing_spec (s : State) (n : Nat) :
    (s.examineFreeing n).table =
      { s.table with low := s.table.low && !(decide (n ≤ 4) && decide (5 ≤ s.table.freeCount)) } ∧
      (s.examineFreeing n).sessions = s.sessions := by
  unfold State.examineFreeing
  by_cases h : n ≤ 4 ∧ 5 ≤ s.table.freeCount
  · rw [if_pos h]; simp [h.1, h.2]
  · rw [if_neg h]
    refine ⟨?_, rfl⟩
    have : (decide (n ≤ 4) && decide (5 ≤ s.table.freeCount)) = false := by simpa using h
    rw [this]
    simp

/-- An allocation sets the flag at the passage from 5 to 4, with TABLE to every link in session. -/
theorem State.examineAllocation_spec (s : State) (n : Nat) :
    ((n = 5 ∧ s.table.freeCount = 4 ∧ s.table.low = false) →
      s.examineAllocation n = (s.setTable { s.table with low := true }).notifyBoth .putTable) ∧
    (¬(n = 5 ∧ s.table.freeCount = 4 ∧ s.table.low = false) → s.examineAllocation n = s) :=
  ⟨fun h => if_pos h, fun h => if_neg h⟩

/-! ### Retirements -/

/-- Re-deciding a group leaves the Session Unit alone. -/
theorem State.surface_sessions (before s : State) (g : Group) : (before.surface s g).sessions = s.sessions := by
  simp

/-- A retirement that frees: the slot FREE in its generation, out of the arrival order and of both changed sets, the
low-table flag examined, and the record's group re-decided (R2, R13, R15, R58). -/
theorem State.retireFree_spec {s : State} {i : SlotIx} {r : Record} (h : s.record i = some r) :
    (∀ j, (s.retireFree i).slot j =
      surfacedSlot s (s.retireFree i) r.group j (if j = i then (s.slot i).freed else s.slot j)) ∧
    (s.retireFree i).table.arrival = s.table.arrival.filter (· ≠ i) ∧
    (s.retireFree i).table.low = lowAfterFreeing s (s.retireFree i) ∧
    (∀ m, (s.retireFree i).session m =
      { s.session m with changed := (s.session m).changed.filter (· ≠ i) }) ∧
    s.sameRoles (s.retireFree i) := by
  have e : s.retireFree i =
      s.surface ((((s.setContent i .free).setArrival (s.arrivalWithout i)).leaveBothChanged i).examineFreeing
        s.table.freeCount) r.group := by
    unfold State.retireFree
    rw [h]
  set u := (((s.setContent i .free).setArrival (s.arrivalWithout i)).leaveBothChanged i) with hu
  have hlow := (u.examineFreeing_spec s.table.freeCount)
  have hslot : ∀ j, (u.examineFreeing s.table.freeCount).slot j = if j = i then (s.slot i).freed else s.slot j := by
    intro j
    rw [State.slot_congr (s := s.setContent i .free) (by rw [hlow.1]; simp [hu, State.setArrival]),
      State.slot_setContent]
    rfl
  rw [e]
  refine ⟨fun j => ?_, ?_, ?_, fun m => ?_, ?_⟩
  · rw [State.surface_slot, hslot, surfacedSlot_congr (SameView.visibleSlot (State.surface_view ..) _)]
  · rw [State.surface_arrival, hlow.1]
    simp [hu, State.setArrival, State.arrivalWithout]
  · rw [State.surface_low, hlow.1]
    unfold lowAfterFreeing
    rw [State.surface_freeCount, hlow.1]
    have : ({ u.table with
        low := u.table.low && !(decide (s.table.freeCount ≤ 4) && decide (5 ≤ u.table.freeCount)) } : Table).freeCount =
        u.table.freeCount := rfl
    rw [this]
    simp [hu, State.setArrival]
  · rw [State.session_congr (State.surface_sessions ..), State.session_congr hlow.2, hu, State.leaveBothChanged_session]
    rfl
  · refine ⟨?_, ?_, ?_, ?_⟩ <;> rw [State.surface_sessions, hlow.2] <;>
      simp [hu, State.leaveBothChanged, State.leaveChanged, State.setSession, State.setContent, State.setArrival]

/-- Counts after one slot's contents are replaced by contents that are not FREE, in a slot that was not FREE. -/
theorem State.freeCount_of_kind {s t : State} (h : ∀ j, (t.slot j).isFree = (s.slot j).isFree) :
    t.table.freeCount = s.table.freeCount :=
  Table.count_congr h

/-- The flag stands while the free count stands. -/
theorem lowAfterFreeing_of_count {s t : State} (h : t.table.freeCount = s.table.freeCount) :
    lowAfterFreeing s t = s.table.low := by
  unfold lowAfterFreeing
  rw [h]
  have : (decide (s.table.freeCount ≤ 4) && decide (5 ≤ s.table.freeCount)) = false := by
    simp only [Bool.and_eq_false_imp, decide_eq_true_eq, decide_eq_false_iff_not]
    omega
  rw [this]
  simp

/-- A retirement that leaves a tombstone: in the slot's generation, out of the arrival order, into the owner's changed
set, and the record's group re-decided (R10, R15, R16, R58). -/
theorem State.retireTombstone_spec (s : State) (i : SlotIx) (r : Record) (o : Link) (v : Reason) :
    (∀ j, (s.retireTombstone i r o v).slot j =
      surfacedSlot s (s.retireTombstone i r o v) r.group j
        (if j = i then
          { s.slot i with content := .tombstone { owner := o, key := r.key, reason := v, stateAt := r.state } }
        else s.slot j)) ∧
    (s.retireTombstone i r o v).table.arrival = s.table.arrival.filter (· ≠ i) ∧
    (s.retireTombstone i r o v).table.low = s.table.low ∧
    (∀ m, (s.retireTombstone i r o v).session m =
      if m = o then { s.session m with changed := joinSlot i (s.session m).changed } else s.session m) ∧
    s.sameRoles (s.retireTombstone i r o v) := by
  unfold State.retireTombstone
  simp only
  set u := ((s.setContent i (.tombstone { owner := o, key := r.key, reason := v, stateAt := r.state })).setArrival
    (s.arrivalWithout i)).joinChanged o i with hu
  refine ⟨fun j => ?_, ?_, ?_, fun m => ?_, ?_⟩
  · rw [State.surface_slot, surfacedSlot_congr (SameView.visibleSlot (State.surface_view ..) _)]
    congr 1
    rw [State.slot_congr (s := s.setContent i (.tombstone { owner := o, key := r.key, reason := v, stateAt := r.state }))
      (by simp [hu, State.setArrival]), State.slot_setContent]
  · rw [State.surface_arrival]
    simp [hu, State.setArrival, State.arrivalWithout]
  · rw [State.surface_low]
    simp [hu, State.setArrival]
  · rw [State.session_congr (State.surface_sessions ..), hu, State.joinChanged_session]
    rfl
  · refine ⟨?_, ?_, ?_, ?_⟩ <;> rw [State.surface_sessions] <;>
      simp [hu, State.joinChanged, State.setSession, State.setContent, State.setArrival]

/-- Nothing about the blocks outside the table and the links (R15, R16). -/
theorem State.retire_elsewhere (s : State) (c : Cause) (v : Reason) (i : SlotIx) :
    (s.retire c v i).horn = s.horn ∧ (s.retire c v i).ports = s.ports ∧ (s.retire c v i).map = s.map := by
  simp

/-- A retirement by its cause (R14–R16): what `State.retiredSlot` and `State.retiredChanged` say. -/
theorem State.retire_spec {s : State} {i : SlotIx} {r : Record} (h : s.record i = some r) (c : Cause) (v : Reason) :
    (∀ j, (s.retire c v i).slot j =
      surfacedSlot s (s.retire c v i) r.group j (if j = i then s.retiredSlot c v i else s.slot j)) ∧
    (s.retire c v i).table.arrival = s.table.arrival.filter (· ≠ i) ∧
    (s.retire c v i).table.low = lowAfterFreeing s (s.retire c v i) ∧
    (∀ m, (s.retire c v i).session m = { s.session m with changed := s.retiredChanged c i m }) ∧
    s.sameRoles (s.retire c v i) := by
  have hf := State.retireFree_spec h
  cases ho : r.owner with
  | none =>
    have e : s.retire c v i = s.retireFree i := by unfold State.retire; rw [h]; simp only [ho]
    have eslot : s.retiredSlot c v i = (s.slot i).freed := by unfold State.retiredSlot; rw [h]; simp only [ho]
    have echg : ∀ m, s.retiredChanged c i m = (s.session m).changed.filter (· ≠ i) := by
      intro m; unfold State.retiredChanged; rw [h]; simp [Record.freedBy, ho]
    rw [e, eslot]
    simp only [echg]
    exact hf
  | some o =>
    by_cases hc : c = .link o
    · have e : s.retire c v i = s.retireFree i := by
        unfold State.retire; rw [h]; simp only [ho]; rw [if_pos hc]
      have hb : r.freedBy c = true := by simp [Record.freedBy, ho, hc]
      have eslot : s.retiredSlot c v i = (s.slot i).freed := by
        unfold State.retiredSlot; rw [h]; simp only [ho]; rw [if_pos hb]
      have echg : ∀ m, s.retiredChanged c i m = (s.session m).changed.filter (· ≠ i) := by
        intro m; unfold State.retiredChanged; rw [h]; simp only; rw [if_pos hb]
      rw [e, eslot]
      simp only [echg]
      exact hf
    · have e : s.retire c v i = s.retireTombstone i r o v := by
        unfold State.retire; rw [h]; simp only [ho]; rw [if_neg hc]
      have hb : r.freedBy c ≠ true := by simp [Record.freedBy, ho, hc]
      have eslot : s.retiredSlot c v i =
          { s.slot i with content := .tombstone { owner := o, key := r.key, reason := v, stateAt := r.state } } := by
        unfold State.retiredSlot; rw [h]; simp only [ho]; rw [if_neg hb]
      have echg : ∀ m, s.retiredChanged c i m =
          if o = m then joinSlot i (s.session m).changed else (s.session m).changed := by
        intro m; unfold State.retiredChanged; rw [h]; simp only; rw [if_neg hb, ho]; simp
      obtain ⟨a, b, l, d, f⟩ := s.retireTombstone_spec i r o v
      rw [e, eslot]
      refine ⟨a, b, ?_, fun m => ?_, f⟩
      · rw [l, lowAfterFreeing_of_count]
        apply State.freeCount_of_kind
        intro j
        rw [a j, (surfacedSlot_kind ..).2.1]
        split
        · next hj => subst hj; simp [Slot.isFree, State.record_eq_some.mp h]
        · rfl
      · rw [d m, echg m]
        by_cases hm : m = o
        · subst hm; simp
        · rw [if_neg hm, if_neg (fun c => hm c.symm)]

/-! ### The events of R29 -/

/-- Where nothing has happened nothing surfaces. -/
theorem surfacedSlot_self (s : State) (g : Group) (j : SlotIx) (x : Slot) : surfacedSlot s s g j x = x := by
  unfold surfacedSlot
  split
  · rw [if_neg]
    rintro ⟨a, b, -⟩
    exact b a
  · rfl

/-- REASSERT moves its record or is refused (R29). -/
theorem annunciate_reassert (l : Latch) (a : Annunciation) : annunciate .reassert l a ≠ .noEffect := by
  cases a <;> simp [annunciate, reasserting]

/-- The record moved to another state, with the arrival order of R9 and the owner told by R35, before its group is
re-decided. -/
def State.moved (s : State) (ev : RecordEvent) (c : Cause) (i : SlotIx) (r : Record) (st : Annunciation) : State :=
  ((s.setRecord i (r.moveTo ev st s.startIn)).noteArrival ev i).noteChange c i r

theorem State.moved_spec (s : State) (ev : RecordEvent) (c : Cause) (i : SlotIx) (r : Record) (st : Annunciation) :
    (s.moved ev c i r st).table.slots = (s.setRecord i (r.moveTo ev st s.startIn)).table.slots ∧
    (s.moved ev c i r st).table.arrival =
      (if ev = .reassert then s.table.arrival.filter (· ≠ i) ++ [i] else s.table.arrival) ∧
    (s.moved ev c i r st).table.low = s.table.low ∧
    (∀ m, (s.moved ev c i r st).session m =
      { s.session m with
        changed :=
          if r.owner = some m ∧ c ≠ .link m then joinSlot i (s.session m).changed else (s.session m).changed }) ∧
    s.sameRoles (s.moved ev c i r st) := by
  have harr : ((s.setRecord i (r.moveTo ev st s.startIn)).noteArrival ev i).table =
      { (s.setRecord i (r.moveTo ev st s.startIn)).table with
        arrival := if ev = .reassert then s.table.arrival.filter (· ≠ i) ++ [i] else s.table.arrival } := by
    unfold State.noteArrival
    split <;> rfl
  have hses : ((s.setRecord i (r.moveTo ev st s.startIn)).noteArrival ev i).sessions = s.sessions := by
    unfold State.noteArrival
    split <;> simp [State.setArrival]
  have hnote : (s.moved ev c i r st).table = ((s.setRecord i (r.moveTo ev st s.startIn)).noteArrival ev i).table := by
    unfold State.moved State.noteChange
    repeat' split
    all_goals simp
  refine ⟨?_, ?_, ?_, fun m => ?_, ?_⟩
  · rw [hnote, harr]
  · rw [hnote, harr]
  · rw [hnote, harr]
    simp [State.setRecord]
  · unfold State.moved State.noteChange
    cases ho : r.owner with
    | none => simp only; rw [State.session_congr hses]; simp
    | some o =>
      simp only
      by_cases hc : c = .link o
      · rw [if_pos hc, State.session_congr hses]
        rw [if_neg]
        rintro ⟨a, b⟩
        injection a with a
        exact b (a ▸ hc)
      · rw [if_neg hc, State.joinChanged_session, State.session_congr hses]
        by_cases hm : m = o
        · subst hm; simp [hc]
        · rw [if_neg hm, if_neg (fun a => hm (Option.some.inj a.1).symm)]
  · have : ∀ u : State, u.sessions = s.sessions → s.sameRoles (u.noteChange c i r) := by
      intro u hu
      unfold State.noteChange
      repeat' split
      all_goals simp [State.sameRoles, State.joinChanged, State.setSession, hu]
    exact this _ hses

theorem lifetimeAfter_eq (ev : RecordEvent) (n : Nat) : lifetimeAfter ev n = (·.moved ev n) := by
  funext x; cases ev <;> rfl

/-- One event delivered: what `State.eventSlot` and `State.eventChanged` say, the arrival order as R9 and R15 have it, and
the record's group re-decided (R29, R35, R37). -/
theorem State.deliver_spec {s : State} {i : SlotIx} {r : Record} (h : s.record i = some r) (ev : RecordEvent) (c : Cause) :
    (∀ j, (s.deliver ev c i).slot j =
      surfacedSlot s (s.deliver ev c i) r.group j (if j = i then s.eventSlot ev c i else s.slot j)) ∧
    (s.deliver ev c i).table.arrival =
      (if s.retires ev i = true then s.table.arrival.filter (· ≠ i)
      else if ev = .reassert ∧ annunciate ev r.latch r.state ≠ .wrongState then s.table.arrival.filter (· ≠ i) ++ [i]
      else s.table.arrival) ∧
    (s.deliver ev c i).table.low = lowAfterFreeing s (s.deliver ev c i) ∧
    (∀ m, (s.deliver ev c i).session m = { s.session m with changed := s.eventChanged ev c i m }) ∧
    s.sameRoles (s.deliver ev c i) := by
  cases hq : annunciate ev r.latch r.state with
  | retired =>
    have e : s.deliver ev c i = s.retire c ev.reason i := by unfold State.deliver; rw [h]; simp only [hq]
    have hr : s.retires ev i = true := by unfold State.retires; rw [h]; simp [hq]
    have eslot : s.eventSlot ev c i = s.retiredSlot c ev.reason i := by
      unfold State.eventSlot; rw [h]; simp only [hq]
    have echg : ∀ m, s.eventChanged ev c i m = s.retiredChanged c i m := by
      intro m; unfold State.eventChanged; rw [h]; simp only [hq]
    rw [e, eslot, if_pos hr]
    simp only [echg]
    exact State.retire_spec h c ev.reason
  | moved st =>
    have e : s.deliver ev c i = s.surface (s.moved ev c i r st) r.group := by
      unfold State.deliver; rw [h]; simp only [hq]; rfl
    have hr : ¬s.retires ev i = true := by unfold State.retires; rw [h]; simp [hq]
    have eslot : s.eventSlot ev c i = { s.slot i with content := .live (r.moveTo ev st s.startIn) } := by
      unfold State.eventSlot Record.moveTo; rw [h]; simp only [hq, lifetimeAfter_eq]
    have echg : ∀ m, s.eventChanged ev c i m =
        if r.owner = some m ∧ c ≠ .link m then joinSlot i (s.session m).changed else (s.session m).changed := by
      intro m; unfold State.eventChanged; rw [h]; simp only [hq]
    obtain ⟨a, b, l, d, f⟩ := s.moved_spec ev c i r st
    have hslot : ∀ j, (s.surface (s.moved ev c i r st) r.group).slot j =
        surfacedSlot s (s.surface (s.moved ev c i r st) r.group) r.group j
          (if j = i then s.eventSlot ev c i else s.slot j) := by
      intro j
      rw [State.surface_slot, surfacedSlot_congr (SameView.visibleSlot (State.surface_view ..) _), State.slot_congr a,
        State.slot_setRecord, eslot]
    rw [e]
    refine ⟨hslot, ?_, ?_, fun m => ?_, ?_⟩
    · rw [State.surface_arrival, b, if_neg hr]
      simp
    · rw [State.surface_low, l, lowAfterFreeing_of_count]
      apply State.freeCount_of_kind
      intro j
      rw [hslot j, (surfacedSlot_kind ..).2.1]
      split
      · next hj => subst hj; rw [eslot]; simp [Slot.isFree, State.record_eq_some.mp h]
      · rfl
    · rw [State.session_congr (State.surface_sessions ..), d m, echg m]
    · unfold State.sameRoles
      rw [State.surface_sessions]
      exact f
  | noEffect =>
    have e : s.deliver ev c i = s := by unfold State.deliver; rw [h]; simp only [hq]
    have hr : ¬s.retires ev i = true := by unfold State.retires; rw [h]; simp [hq]
    have eslot : s.eventSlot ev c i = s.slot i := by unfold State.eventSlot; rw [h]; simp only [hq]
    have echg : ∀ m, s.eventChanged ev c i m = (s.session m).changed := by
      intro m; unfold State.eventChanged; rw [h]; simp only [hq]
    have hre : ¬(ev = .reassert ∧ Effect.noEffect ≠ .wrongState) := by
      rintro ⟨rfl, -⟩
      exact annunciate_reassert _ _ hq
    rw [e, eslot, if_neg hr, if_neg hre]
    refine ⟨fun j => ?_, rfl, (lowAfterFreeing_of_count rfl).symm, fun m => by rw [echg m], rfl, rfl, rfl, rfl⟩
    rw [surfacedSlot_self]
    split
    · next hj => rw [hj]
    · rfl
  | wrongState =>
    have e : s.deliver ev c i = s := by unfold State.deliver; rw [h]; simp only [hq]
    have hr : ¬s.retires ev i = true := by unfold State.retires; rw [h]; simp [hq]
    have eslot : s.eventSlot ev c i = s.slot i := by unfold State.eventSlot; rw [h]; simp only [hq]
    have echg : ∀ m, s.eventChanged ev c i m = (s.session m).changed := by
      intro m; unfold State.eventChanged; rw [h]; simp only [hq]
    rw [e, eslot, if_neg hr, if_neg (fun x => x.2 rfl)]
    refine ⟨fun j => ?_, rfl, (lowAfterFreeing_of_count rfl).symm, fun m => by rw [echg m], rfl, rfl, rfl, rfl⟩
    rw [surfacedSlot_self]
    split
    · next hj => rw [hj]
    · rfl

end Sys2Proof.Machine
end

