-- ==== Sys2Proof/Laws/Blocks.lean ====
section
/-!
SUPPORT. What the shared operations of the lamp test, the roles and the answers do, said once.
-/

namespace Sys2Proof.Machine

/-! ### Answers -/

/-- The request in a link's slot is answered, if one executes there; nothing but its port changes (R138). -/
theorem State.answerExecuting_spec (s : State) (l : Link) (v : Result) :
    (∀ r, s.executing l = some r → s.answerExecuting l v = { s with ports := s.portsAnswering l r v [] }) ∧
      (s.executing l = none → s.answerExecuting l v = s) := by
  refine ⟨fun r h => ?_, fun h => ?_⟩
  · unfold State.answerExecuting
    rw [h]
    exact State.answer_eq ..
  · unfold State.answerExecuting
    rw [h]

/-! ### The lamp test -/

/-- A LAMP notice to the primary (R98). -/
theorem State.tellLamp_eq (s : State) (v : LampNotice) :
    s.notifyPrimary (.putLamp v) = { s with sessions := s.lampTold v } := by
  unfold State.notifyPrimary State.lampTold
  cases s.sessions.primary with
  | none => rfl
  | some p =>
    simp only
    unfold State.notify
    split <;> rfl

/-- The end of a test: a RUNNING one ends with LAMP ended, an IDLE one is left alone (R90, R98). -/
theorem State.endLamp_spec (s : State) :
    s.endLamp =
      if s.panel.lamp.running = true then
        { s with sessions := s.lampTold .ended, panel := { s.panel with lamp := .idle } }
      else s := by
  unfold State.endLamp
  split
  · rw [State.tellLamp_eq]
    rfl
  · rfl

/-- The start of a test: an IDLE one begins with LAMP started; a RUNNING one can only be lengthened, and its key hold only
set (R91, R95). -/
theorem State.startLamp_spec (s : State) (t : Nat) (hold : Bool) :
    s.startLamp t hold =
      if s.panel.lamp.running = true then
        s.setLamp { s.panel.lamp.extend t with keyHold := s.panel.lamp.keyHold || hold }
      else
        { s with
          sessions := s.lampTold .started
          panel := { s.panel with lamp := { running := true, timedEnd := some t, keyHold := hold } } } := by
  unfold State.startLamp
  split
  · rfl
  · rw [State.tellLamp_eq]
    rfl

/-! ### Roles -/

/-- A change of the primary resets the staged map and clears the permit (R81, R159). -/
theorem State.changePrimary_spec (s : State) (p : Option Link) :
    s.changePrimary p =
      { s with
        sessions := { s.sessions with primary := p, permit := none }
        map := { s.map with staged := s.map.active } } := rfl

/-- The swap of R163, where the other link is in session when it has become STANDBY: the caller PRIMARY, the other STANDBY
with ROLE lost, the permit cleared, the staged map reset. -/
theorem State.swapRoles_spec (s : State) (l : Link) :
    s.swapRoles l =
      { s with
        sessions :=
          { s.sessions with
            links := (s.sessions.links.set l { s.session l with state := .primary }).set l.other
              { s.session l.other with
                state := .standby, notices := { (s.session l.other).notices with role := some .lost } }
            primary := some l, permit := none }
        map := { s.map with staged := s.map.active } } := by
  cases l <;> rfl

/-- A commit that has ended: a waiting TAKEOVER waits no longer and is to be completed (R76, R79, R164). -/
theorem State.commitEnded_spec (s : State) :
    (∀ l, s.sessions.waiting = some l →
      s.commitEnded = { s with sessions := { s.sessions with waiting := none, takeoverDue := some l } }) ∧
      (s.sessions.waiting = none → s.commitEnded = s) := by
  refine ⟨fun l h => ?_, fun h => ?_⟩ <;> unfold State.commitEnded <;> rw [h]
  rfl

/-! ### Frames -/

/-- The counter advances, 63 passing to 0 with a new cadence cycle, and the clock reaches the frame's start (R85). -/
theorem State.advanceFrame_spec (s : State) :
    s.advanceFrame =
      { s with
        time :=
          { s.time with
            clock := max s.time.clock (1000000 * s.time.cycles + 15625 * (s.panel.frame.val + 1))
            cycles := s.time.cycles + if s.panel.frame = 63 then 1 else 0 }
        panel := { s.panel with frame := s.panel.frame + 1 } } := by
  unfold State.advanceFrame State.nextFrameAt
  by_cases h : s.panel.frame = 63
  · have e : (63 : Frame) + 1 = 0 := by decide
    simp [h, e, State.reach, State.setTime, State.setPanel, secondMicros, frameMicros]
  · simp [h, State.reach, State.setTime, State.setPanel, secondMicros, frameMicros]

theorem State.endsCommit_iff {s : State} : s.endsCommit = true ↔ s.panel.frame = 63 ∧ s.map.commit = .pending := by
  simp [State.endsCommit]

/-- The two ways a frame begins: with the completion of a PENDING commit, or without (R76, R88). -/
theorem State.startFrame_spec (s : State) :
    (s.panel.frame = 63 ∧ s.map.commit = .pending → s.startFrame = s.advanceFrame.completeCommit.composeFrame) ∧
      (¬(s.panel.frame = 63 ∧ s.map.commit = .pending) → s.startFrame = s.advanceFrame.composeFrame) := by
  refine ⟨fun h => ?_, fun h => ?_⟩ <;> unfold State.startFrame
  · rw [if_pos (State.endsCommit_iff.mpr h)]
  · rw [if_neg (mt State.endsCommit_iff.mp h)]

/-! ### The re-decision of all groups -/

/-- A visible record names the group it is visible in (R50, R56). -/
theorem State.visibleSlot_record {s : State} {g : Group} {i : SlotIx} (h : s.visibleSlot g = some i) :
    ∃ r, s.record i = some r ∧ r.group = g := by
  have hi : s.table.head g = some i := by
    unfold State.visibleSlot at h
    split at h
    · cases h
    · next k hk =>
      split at h
      · cases h
      · split at h
        · rw [hk, ← h]
        · cases h
  have hm : i ∈ s.table.claimants g := by
    have : i ∈ s.table.claimList g := List.mem_of_mem_head? hi
    exact (List.perm_insertionSort _ _).mem_iff.mp this
  have hp := (List.mem_filter.mp hm).2
  cases hr : s.table.record i with
  | none => rw [hr] at hp; cases hp
  | some r => rw [hr] at hp; exact ⟨r, hr, by simpa using hp⟩

/-- A group's re-decision touches no record of another group. -/
theorem surfacedSlot_other {s t : State} {g : Group} {j : SlotIx} {r : Record} (h : t.record j = some r)
    (hg : r.group ≠ g) (x : Slot) : surfacedSlot s t g j x = x := by
  unfold surfacedSlot
  split
  · rw [if_neg]
    rintro ⟨a, -, -⟩
    obtain ⟨q, hq, e⟩ := State.visibleSlot_record a
    rw [h] at hq
    injection hq with hq
    exact hg (hq ▸ e)
  · rfl

/-- A record surfaces at most once in one re-decision. -/
theorem surfacedSlot_twice (s t : State) (g : Group) (j : SlotIx) (x : Slot) :
    surfacedSlot s t g j (surfacedSlot s t g j x) = surfacedSlot s t g j x := by
  cases hx : x.content with
  | free => simp [surfacedSlot, hx]
  | tombstone t => simp [surfacedSlot, hx]
  | live r =>
    by_cases c : t.visibleSlot g = some j ∧ s.visibleSlot g ≠ some j ∧ r.state.unacknowledged = true
    · have e : surfacedSlot s t g j x = { x with content := .live { r with silenced := false } } := by
        unfold surfacedSlot; rw [hx]; simp only; rw [if_pos c]
      rw [e]
      unfold surfacedSlot
      simp only
      rw [if_pos c]
    · have e : surfacedSlot s t g j x = x := by
        unfold surfacedSlot; rw [hx]; simp only; rw [if_neg c]
      rw [e, e]

/-- What a run of re-decisions makes of a slot: judged in its own record's group, if that is among those re-decided. -/
theorem State.surfaceList_spec (before : State) (gs : List Group) (s : State) :
    SameView s (gs.foldl (fun a g => before.surface a g) s) ∧
      ∀ j, (gs.foldl (fun a g => before.surface a g) s).slot j =
        match s.record j with
        | some r => if r.group ∈ gs then surfacedSlot before s r.group j (s.slot j) else s.slot j
        | none => s.slot j := by
  induction gs generalizing s with
  | nil => exact ⟨.refl s, fun j => by cases s.record j <;> simp⟩
  | cons g gs ih =>
    have hv := State.surface_view before s g
    obtain ⟨v, hs⟩ := ih (before.surface s g)
    refine ⟨hv.trans v, fun j => ?_⟩
    have hslot := State.surface_slot before s g j
    show (gs.foldl (fun a g => before.surface a g) (before.surface s g)).slot j = _
    rw [hs j]
    cases hr : s.record j with
    | none =>
      have hn : (before.surface s g).slot j = s.slot j := by
        rw [hslot]
        unfold surfacedSlot
        split
        · next r hc => rw [State.record_eq_some.mpr hc] at hr; cases hr
        · rfl
      rw [State.record_of_slot hn, hr]
      exact hn
    | some r =>
      have hc := State.record_eq_some.mp hr
      simp only
      by_cases hg : r.group = g
      · have hm : r.group ∈ g :: gs := by simp [hg]
        rw [if_pos hm]
        obtain ⟨r', hr', hgr'⟩ : ∃ r', (before.surface s g).record j = some r' ∧ r'.group = r.group := by
          rcases surfacedSlot_same before s g j (s.slot j) with e | ⟨q, hq, e⟩
          · exact ⟨r, by rw [State.record_of_slot (hslot.trans e), hr], rfl⟩
          · refine ⟨{ q with silenced := false }, State.record_eq_some.mpr (by rw [hslot, e]), ?_⟩
            rw [hc] at hq
            injection hq with hq
            rw [hq]
        rw [hr']
        simp only
        rw [hgr', hg, hslot, surfacedSlot_congr (hv.visibleSlot _), surfacedSlot_twice]
        simp
      · have hn : (before.surface s g).slot j = s.slot j := by rw [hslot, surfacedSlot_other hr hg]
        rw [State.record_of_slot hn, hr]
        simp only
        rw [hn, surfacedSlot_congr (hv.visibleSlot _)]
        simp [hg]

/-- The re-decision of all groups (R57, R58). -/
theorem State.surfaceAll_spec (before s : State) :
    SameView s (before.surfaceAll s) ∧
      ∀ j, (before.surfaceAll s).slot j =
        match s.record j with
        | some r => surfacedSlot before s r.group j (s.slot j)
        | none => s.slot j := by
  obtain ⟨v, h⟩ := State.surfaceList_spec before allGroups s
  refine ⟨v, fun j => (h j).trans ?_⟩
  cases s.record j with
  | none => rfl
  | some r => simp [allGroups]

end Sys2Proof.Machine
end

