-- ==== Sys2Proof/Laws/Sound.lean ====
section
/-!
SUPPORT. The invariants on a concrete state: checks that evaluate, and that passing one gives the invariant.
-/

namespace Sys2Proof.Machine

/-- Both links, as a list to check over. -/
def bothLinks : List Link := [.a, .b]

theorem mem_bothLinks (l : Link) : l ∈ bothLinks := by
  cases l <;> decide

def rolesCheck (s : State) : Bool :=
  bothLinks.all fun l =>
    decide ((s.session l).state = .primary ↔ s.sessions.primary = some l) &&
    decide (s.sessions.permit = some l → (s.session l).state = .standby ∧ s.sessions.primary = some l.other) &&
    decide (s.sessions.waiting = some l → s.sessions.permit = some l ∧ s.map.commit = .pending) &&
    decide (s.sessions.takeoverDue = some l → s.sessions.permit = some l ∧ s.sessions.waiting = none) &&
    decide (s.sessions.waiting = some l ∨ s.sessions.takeoverDue = some l → (s.port l).slot.isExecuting = true) &&
    decide (s.sessions.primary = none → s.map.commit = .idle ∧ s.map.staged = s.map.active) &&
    (!s.inSession l ||
      (s.session l).keepalive.any fun k =>
        decide (1 ≤ k.interval ∧ k.interval ≤ 255 ∧ k.count ≤ k.interval ∧ k.startIn ≤ 2))

theorem rolesSound_of_check {s : State} (h : rolesCheck s = true) : RolesSound s := by
  have h' := fun l => List.all_eq_true.mp h l (mem_bothLinks l)
  simp only [Bool.and_eq_true, decide_eq_true_eq] at h'
  refine ⟨fun l => ?_, fun l => ?_, fun l => ?_, fun l => ?_, fun l => ?_, ?_, fun l hs => ?_⟩
  · exact (h' l).1.1.1.1.1.1
  · exact (h' l).1.1.1.1.1.2
  · exact (h' l).1.1.1.1.2
  · exact (h' l).1.1.1.2
  · exact (h' l).1.1.2
  · exact (h' .a).1.2
  · have k := (h' l).2
    rw [hs] at k
    obtain ⟨x, hx, hp⟩ := (Option.any_eq_true _ _).mp k
    exact ⟨x, hx, of_decide_eq_true hp⟩

def tableCheck (s : State) : Bool :=
  decide s.table.arrival.Nodup &&
  decide (∀ i : SlotIx, i ∈ s.table.arrival ↔ (s.slot i).isLive = true) &&
  decide (∀ i : SlotIx, (s.slot i).isFree = false → (s.slot i).gen ≠ 0#8) &&
  decide (s.table.low = true ↔ s.table.freeCount ≤ 4) &&
  decide ((allSlots.filter fun i => (s.record i).any fun r => r.cls != .alarm).length ≤ 60)

theorem tableSound_of_check {s : State} (h : tableCheck s = true) : TableSound s := by
  simp only [tableCheck, Bool.and_eq_true, decide_eq_true_eq] at h
  exact ⟨h.1.1.1.1, h.1.1.1.2, h.1.1.2, h.1.2, h.2⟩

def recordCheck (r : Record) : Bool :=
  decide (r.key ≠ 0#16) && decide (r.glyph ≠ 0#8) && decide (r.cls = .alarm → r.latch ≠ .none) &&
  decide (r.state = .steady ↔ r.latch = .none) && decide (r.state = .awaitReset → r.latch = .ackReset) &&
  r.lifetime.all fun x => decide (1 ≤ x.period ∧ x.period ≤ 65535 ∧ x.remaining ≤ x.period ∧ x.startIn ≤ 2 ∧
    (x.startIn ≠ 0 → x.remaining = x.period)) &&
    decide (r.state = .steady ∨ r.state = .new ∨ r.state = .acked → 1 ≤ x.remaining) &&
    decide (x.due = true →
      (r.state = .steady ∨ r.state = .new ∨ r.state = .acked) ∧ x.startIn = 0 ∧ x.remaining = 1)

theorem record_sound_of_check {r : Record} (h : recordCheck r = true) : r.Sound := by
  simp only [recordCheck, Bool.and_eq_true, decide_eq_true_eq] at h
  have k : ∀ x, r.lifetime = some x → _ := fun x hx => by
    have k := h.2
    rw [hx] at k
    simpa only [Option.all_some, Bool.and_eq_true, decide_eq_true_eq] using k
  exact ⟨h.1.1.1.1.1, h.1.1.1.1.2, h.1.1.1.2, h.1.1.2, h.1.2, fun x hx => (k x hx).1.1, fun x hx => (k x hx).1.2,
    fun x hx => (k x hx).2⟩

def recordsCheck (s : State) : Bool := allSlots.all fun i => (s.record i).all recordCheck

theorem recordsSound_of_check {s : State} (h : recordsCheck s = true) : RecordsSound s := by
  intro i r hr
  have k := List.all_eq_true.mp h i (List.mem_finRange i)
  rw [hr] at k
  exact record_sound_of_check k

/-- The owner and key of the LIVE record in a slot, if it has an owner. -/
def State.ownedKey (s : State) (i : SlotIx) : Option (Link × Word16) :=
  (s.record i).bind fun r => r.owner.map fun l => (l, r.key)

/-- The owner of what a slot holds. -/
def Slot.owner (x : Slot) : Option Link :=
  match x.content with
  | .free => none
  | .live r => r.owner
  | .tombstone t => some t.owner

/-- The slots of the LIVE records that have an owner. -/
def State.ownedSlotsAll (s : State) : List SlotIx := allSlots.filter fun i => (s.ownedKey i).isSome

def ownershipCheck (s : State) : Bool :=
  (bothLinks.all fun l =>
    (s.inSession l || decide (s.session l = .out (s.session l).state)) &&
    decide ((s.session l).changed.Pairwise (· < ·)) &&
    (s.session l).changed.all fun i => decide ((s.slot i).owner = some l)) &&
  (allSlots.all fun i =>
    (s.slot i).owner.all s.inSession &&
    (!(s.slot i).isTombstone || (s.slot i).owner.all fun l => decide (i ∈ (s.session l).changed))) &&
  s.ownedSlotsAll.all fun i => s.ownedSlotsAll.all fun j => decide (i = j) || decide (s.ownedKey i ≠ s.ownedKey j)

theorem Slot.owner_of_record {s : State} {i : SlotIx} {r : Record} (h : s.record i = some r) :
    (s.slot i).owner = r.owner := by
  simp [Slot.owner, State.record_eq_some.mp h]

theorem ownershipSound_of_check {s : State} (h : ownershipCheck s = true) : OwnershipSound s := by
  simp only [ownershipCheck, Bool.and_eq_true] at h
  obtain ⟨⟨links, slots⟩, keys⟩ := h
  have links := fun l => List.all_eq_true.mp links l (mem_bothLinks l)
  have slots := fun i => List.all_eq_true.mp slots i (List.mem_finRange i)
  simp only [Bool.and_eq_true, Bool.or_eq_true, decide_eq_true_eq] at links slots
  refine ⟨fun l hl => ?_, fun i r l hr ho => ?_, fun i t ht => ?_, fun l i hi => ?_, fun l => (links l).1.2, ?_⟩
  · exact (links l).1.1.resolve_left (by simp [hl])
  · have k := (slots i).1
    rw [Slot.owner_of_record hr, ho] at k
    exact k
  · have e : (s.slot i).owner = some t.owner := by simp [Slot.owner, ht]
    have k := slots i
    rw [e] at k
    exact ⟨k.1, of_decide_eq_true (k.2.resolve_left (by simp [Slot.isTombstone, ht]))⟩
  · have k := of_decide_eq_true (List.all_eq_true.mp (links l).2 i hi)
    unfold Slot.owner at k
    split at k
    · cases k
    · exact .inl ⟨_, State.record_eq_some.mpr ‹_›, k⟩
    · exact .inr ⟨_, ‹_›, Option.some.inj k⟩
  · intro i j r q l hr hq hro hqo hk
    have key : ∀ {n : SlotIx} {x : Record}, s.record n = some x → x.owner = some l → s.ownedKey n = some (l, x.key) := by
      intro n x hx ho
      simp [State.ownedKey, hx, ho]
    have mem : ∀ {n : SlotIx} {x : Record}, s.record n = some x → x.owner = some l → n ∈ s.ownedSlotsAll := by
      intro n x hx ho
      exact List.mem_filter.mpr ⟨List.mem_finRange n, by simp [key hx ho]⟩
    have k := List.all_eq_true.mp (List.all_eq_true.mp keys i (mem hr hro)) j (mem hq hqo)
    rw [key hr hro, key hq hqo, hk] at k
    simpa using k

/-- No drive point in two groups of a map. -/
def disjointCheck (m : Vector MapEntry 24) : Bool :=
  allGroups.all fun g => (m.get g).points.all fun p => allGroups.all fun h =>
    !(m.get h).points.contains p || decide (g = h)

theorem disjoint_of_check {m : Vector MapEntry 24} (h : disjointCheck m = true) : PointsDisjoint m := by
  intro g k p hg hk
  have x := List.all_eq_true.mp (List.all_eq_true.mp (List.all_eq_true.mp h g (List.mem_finRange g)) p hg) k
    (List.mem_finRange k)
  have c : (m.get k).points.contains p = true := List.contains_iff_mem.mpr hk
  rw [c] at x
  simpa using x

def limitedCheck (m : Vector MapEntry 24) : Bool :=
  allGroups.all fun g => decide ((m.get g).points.Nodup) && decide ((m.get g).points.length ≤ 8)

theorem limited_of_check {m : Vector MapEntry 24} (h : limitedCheck m = true) : Limited m := by
  intro g
  have x := List.all_eq_true.mp h g (List.mem_finRange g)
  simpa using x

end Sys2Proof.Machine
end

