-- ==== Sys2Proof/WellFormed.lean ====
section
/-!
DEFINITION. Which commands are ones the outside can give: a PEEK is a transaction of no other kind (R131, R183), a
transaction without a kind byte carries no later byte (R131), and VSENSE stands within its full scale (00_scope.md,
electrical summary).
-/

namespace Sys2Proof

/-- A kind byte that is taken as PEEK: 0x00, or none of the four kinds (R183). -/
def peekKind (k : Byte) : Bool :=
  k != 0x01#8 && k != 0x02#8 && k != 0x0E#8

/-- VSENSE at full scale, in millivolts (00_scope.md, electrical summary). -/
def vsenseFullScale : Nat := 6000

/-- A command the outside or the part can give. -/
def Instr.wellFormed : Instr → Bool
  | .peek _ _ (some k) _ => peekKind k
  | .peek _ _ none bytes => bytes.isEmpty
  | .supplySample mv => decide (mv ≤ vsenseFullScale)
  | _ => true

end Sys2Proof
end

