-- ==== Sys2Proof/Tests/Slice0.lean ====
section
/-!
SUPPORT. Tests: the refusals of WellFormed, single steps against values worked out by hand from the rules named, and for
every statement with hypotheses a state and operands that meet them, clause by clause.
-/

namespace Sys2Proof.Tests

open Sys2Proof.Machine

set_option Elab.async false

/-! ### Small states -/

/-- A session just opened, with a keepalive of nine ticks. -/
def opened (st : SessionState) : LinkSession :=
  { LinkSession.out st with keepalive := some { interval := 9, count := 9, startIn := 0 }, mask := allKinds }

/-- Link A is PRIMARY, Link B STANDBY. -/
def manned : State :=
  { State.reset with
    sessions :=
      { links := { a := opened .primary, b := opened .standby }
        primary := some .a, permit := none, waiting := none, takeoverDue := none } }

/-- Link A's new alarm for group 0, on all four of its points. -/
def alarm : Record :=
  { owner := some .a, key := 1#16, group := 0, cls := .alarm, priority := 3, latch := .ackReset, horn := .sound
    policy := .adopt, glyph := 0x0F#8, lifetime := none, state := .new, silenced := false }

/-- A record written into a slot as the newest, in generation 1. -/
def holding (i : SlotIx) (r : Record) (s : State) : State :=
  ((s.setSlot i { gen := 1#8, content := .live r }).setArrival (s.table.arrival ++ [i])).redecideHorn

/-- The alarm in slot 0 of a manned panel. -/
def alarmed : State := holding 0 alarm manned

/-- The same with the alarm in another annunciation state. -/
def alarmedIn (st : Annunciation) : State := holding 0 { alarm with state := st } manned

/-- The alarm, and tombstones of Link A RETIRED_BY_PRIMARY in slots 1 to 8, all nine in its changed set. -/
def reporting : State :=
  let slots := (List.range 9).map (Fin.ofNat 64)
  let ended : Tombstone := { owner := .a, key := 1#16, reason := .retiredByPrimary, stateAt := .acked }
  ((slots.drop 1).foldl (fun s i => s.setSlot i { gen := 1#8, content := .tombstone ended }) alarmed).setSession .a
    { opened .primary with changed := slots }

/-- The alarm an orphan. -/
def orphaned : State := holding 0 { alarm with owner := none } manned

/-- Link A asks while a commit is PENDING. -/
def committing : State := manned.setMap { manned.map with commit := .pending }

/-- The last frame of a cycle, with a commit PENDING that moves group 23 to point 95 alone, idle glyph lit. -/
def cycleEnd : State :=
  let staged := manned.stageEntry 23 { points := [95], idle := 1#8 }
  (staged.setMap { staged.map with commit := .pending }).setPanel { manned.panel with frame := 63 }

/-- Link B holds the permit. -/
def permitted : State := { manned with sessions := { manned.sessions with permit := some .b } }

/-- A key's contact has closed at the origin of time. -/
def closing (k : KeyId) (s : State) : State :=
  s.setKeys { s.keys with pins := s.keys.pins.set k .closed, timing := s.keys.timing.set k (some 0) }

/-- A closed key's contact has opened at the origin of time. -/
def opening (k : KeyId) (s : State) : State :=
  s.setKeys { s.keys with debounced := s.keys.debounced.set k .closed, timing := s.keys.timing.set k (some 0) }

def ask (code : Byte) (payload : List Byte) : Request := { code, seq := 7#8, payload }

/-- The request executes in the link's slot. -/
def asking (l : Link) (q : Request) (s : State) : State := s.setPort l { s.port l with slot := .executing q }

/-- The state after a command. -/
def after (c : Instr) (s : State) : State :=
  match exec c s with
  | .next t => t
  | _ => s

/-- What the command leaves for a FETCH of the link. -/
def answer (l : Link) (c : Instr) (s : State) : Option (Result × List Byte) :=
  match ((after c s).port l).slot with
  | .answered a => some (a.result, a.payload)
  | _ => none

/-! ### WellFormed -/

theorem test_wellFormed_peek : (Instr.peek 0 .a (some 0x05#8) [1#8]).wellFormed = true := by decide
theorem test_illFormed_peek_send : (Instr.peek 0 .a (some 0x01#8) []).wellFormed = false := by decide
theorem test_illFormed_peek_fetch : (Instr.peek 0 .a (some 0x02#8) []).wellFormed = false := by decide
theorem test_illFormed_peek_linkReset : (Instr.peek 0 .a (some 0x0E#8) []).wellFormed = false := by decide
theorem test_illFormed_peek_late_byte : (Instr.peek 0 .a none [0#8]).wellFormed = false := by decide
theorem test_illFormed_supplySample : (Instr.supplySample 6001).wellFormed = false := by decide
theorem test_wellFormed_supplySample : (Instr.supplySample 6000).wellFormed = true := by decide

/-! ### Frames: the CRC example of R184 -/

theorem test_crc_first : crcFeed 0x00#8 0x12#8 = 0x7E#8 := by decide
theorem test_crc_second : crcFeed 0x7E#8 0x05#8 = 0x66#8 := by decide
theorem test_crc_ping : crc8 [0x12#8, 0x05#8, 0x00#8] = 0x35#8 := by decide +kernel

/-- A PING frame is taken, with a byte after its CRC ignored (R184). -/
theorem test_frame_ping : checkFrame [0x12#8, 0x05#8, 0x00#8, 0x35#8, 0xAA#8] = some ⟨0x12#8, 0x05#8, []⟩ := by
  decide +kernel

/-- A length above 56 is malformed (R135). -/
theorem test_frame_too_long : checkFrame [0x12#8, 0x05#8, 57#8, 0x35#8] = none := by decide

/-! ### Link transactions -/

/-- STANDBY is code 1 in bits 2 and 1 of the status byte (R132, R185). -/
theorem test_peek : ((after (.peek 5 .b (some 0x00#8) [0xFF#8]) manned).port .b).dataOut = [0x02#8, 0x00#8] := by
  decide +kernel

theorem test_peek_unknown_kind : ((after (.peek 5 .b (some 0x03#8) []) manned).port .b).frameError = true := by
  decide +kernel

theorem test_send :
    ((after (.send 5 .a [0x12#8, 0x05#8, 0x00#8, 0x35#8]) manned).port .a).slot = .executing ⟨0x12#8, 0x05#8, []⟩ := by
  decide +kernel

theorem test_send_bad_crc :
    ((after (.send 5 .a [0x12#8, 0x05#8, 0x00#8, 0x36#8]) manned).port .a).frameError = true := by
  decide +kernel

/-- NO_RESPONSE is 0x03 with sequence 0; the CRC of 00 03 00 is 0x3F (R141, R184). -/
theorem test_fetch_nothing :
    ((after (.fetch 5 .a [0#8, 0#8, 0#8, 0#8, 0#8]) State.reset).port .a).dataOut =
      [0x00#8, 0x00#8, 0x03#8, 0x00#8, 0x3F#8, 0x00#8] := by
  decide +kernel

theorem test_fetch_empties :
    ((after (.fetch 5 .a []) (manned.setPort .a { Port.reset with slot := .answered ⟨1#8, .ok, []⟩ })).port .a).slot =
      .empty := by
  decide +kernel

theorem test_linkReset :
    (((after (.linkReset 5 .a [])
      (State.reset.setSession .a (.out .lost)))).session .a).state = .offline := by
  decide +kernel

/-! ### Session requests -/

theorem test_unknownRequest :
    answer .a (.unknownRequest .a) (asking .a (ask 0x60#8 []) State.reset) = some (.unknownRequest, []) := by
  decide +kernel

theorem test_attach_primary :
    answer .a (.attach .a) (asking .a (ask 0x10#8 [1#8, 50#8, 0#8]) State.reset) = some (.ok, [2#8, 0#8]) := by
  decide +kernel

/-- The wish is not met while another link is PRIMARY: STANDBY with flag 0 (R149, R185). -/
theorem test_attach_standby :
    answer .b (.attach .b) (asking .b (ask 0x10#8 [1#8, 50#8, 0#8]) (manned.setSession .b (.out .offline))) =
      some (.ok, [1#8, 1#8]) := by
  decide +kernel

/-- The record of policy ADOPT passes to the link in session (R156). -/
theorem test_detachLeave :
    answer .a (.detachLeave .a) (asking .a (ask 0x11#8 [1#8]) alarmed) = some (.ok, [0#8, 0#8, 1#8]) := by
  decide +kernel

theorem test_detachWithdrawAll :
    answer .a (.detachWithdrawAll .a) (asking .a (ask 0x11#8 [0#8]) alarmed) = some (.ok, [1#8, 0#8, 0#8]) := by
  decide +kernel

theorem test_ping : answer .a (.ping .a) (asking .a (ask 0x12#8 []) manned) = some (.ok, [2#8, 1#8, 0#8, 9#8]) := by
  decide +kernel

/-- Bit 13 names no notice kind (R172, R185). -/
theorem test_setAttention_reserved :
    answer .a (.setAttention .a) (asking .a (ask 0x13#8 [0x20#8, 0x00#8]) manned) = some (.badRequest, []) := by
  decide +kernel

/-- ROLE lost is value 2 of kind bit 1 (R168, R185). -/
theorem test_collect :
    answer .b (.collect .b) (asking .b (ask 0x14#8 []) (manned.notify .b (.putRole .lost))) =
      some (.ok, [0#8, 2#8, 2#8, 0#8, 0#8, 0#8, 0#8, 0#8, 0#8, 0#8, 0#8]) := by
  decide +kernel

/-- Nine changed slots: eight entries with MORE and CHANGES, the alarm NEW, then tombstones in bit 7 (R174, R185). -/
theorem test_collect_more :
    (answer .a (.collect .a) (asking .a (ask 0x14#8 []) reporting)).map (fun a => (a.2.take 21).drop 10 ++ a.2.take 2) =
      some [0x88#8, 0#8, 1#8, 0#8, 1#8, 1#8, 0x81#8, 1#8, 0#8, 1#8, 0x42#8, 0#8, 1#8] := by
  decide +kernel

/-! ### Role requests -/

theorem test_permitGrant :
    (after (.permitGrant .a) (asking .a (ask 0x20#8 [1#8]) manned)).sessions.permit = some .b := by
  decide +kernel

theorem test_permitWithdraw :
    (after (.permitWithdraw .a) (asking .a (ask 0x20#8 [2#8]) permitted)).sessions.permit = none := by
  decide +kernel

theorem test_takeover :
    (after (.takeover .b) (asking .b (ask 0x21#8 []) permitted)).sessions.primary = some .b := by
  decide +kernel

theorem test_takeover_denied :
    answer .b (.takeover .b) (asking .b (ask 0x21#8 []) manned) = some (.denied, []) := by
  decide +kernel

theorem test_takeoverComplete :
    answer .b .takeoverComplete
      (asking .b (ask 0x21#8 []) { permitted with sessions := { permitted.sessions with takeoverDue := some .b } }) =
      some (.ok, []) := by
  decide +kernel

/-- 1: the role has passed to the other link (R161, R185). -/
theorem test_yield : answer .a (.yieldRole .a) (asking .a (ask 0x22#8 []) manned) = some (.ok, [1#8]) := by
  decide +kernel

theorem test_claimOrphan :
    answer .a (.claimOrphan .a) (asking .a (ask 0x23#8 [0#8, 1#8, 0x12#8, 0x34#8]) orphaned) =
      some (.ok, [0#8, 1#8]) := by
  decide +kernel

/-! ### Indication requests -/

/-- The second POST takes slot 1 in generation 1 (R2, R11). -/
theorem test_post :
    answer .b (.post .b)
      (asking .b (ask 0x30#8 [0#8, 1#8, 23#8, 3#8, 15#8, 0#8, 0#8, 2#8, 1#8, 0#8, 0#8, 0#8]) alarmed) =
      some (.ok, [1#8, 1#8]) := by
  decide +kernel

/-- Group 24 is no group (R18, R50). -/
theorem test_post_bad_group :
    answer .b (.post .b)
      (asking .b (ask 0x30#8 [0#8, 1#8, 24#8, 3#8, 15#8, 0#8, 0#8, 2#8, 1#8, 0#8, 0#8, 0#8]) alarmed) =
      some (.badRequest, []) := by
  decide +kernel

/-- Select bit 1: the glyph alone (R20). -/
theorem test_amend :
    (after (.amend .a) (asking .a (ask 0x31#8 [0#8, 1#8, 2#8, 9#8, 0x10#8, 9#8, 9#8, 9#8, 9#8]) alarmed)).record 0 =
      some { alarm with glyph := 0x10#8 } := by
  decide +kernel

/-- 2: NEW becomes CLEARED_NEW (R29, R42); a stale generation is refused (R3). -/
theorem test_clear :
    answer .a (.clear .a) (asking .a (ask 0x32#8 [0#8, 1#8]) alarmed) = some (.ok, [2#8]) ∧
      answer .a (.clear .a) (asking .a (ask 0x32#8 [0#8, 2#8]) alarmed) = some (.staleHandle, []) := by
  decide +kernel

/-- A CLEAR taken before the EXPIRE that is due stops the lifetime with its count of 1 (R8, R40). -/
theorem test_clear_first :
    (after (.clear .a) (asking .a (ask 0x32#8 [0#8, 1#8])
      (holding 0 { alarm with lifetime := some ⟨5, 1, 0, true⟩ } manned))).record 0 =
      some { alarm with state := .clearedNew, lifetime := some ⟨5, 1, 0, false⟩ } := by
  decide +kernel

theorem test_reassert :
    (after (.reassert .a) (asking .a (ask 0x33#8 [0#8, 1#8]) (alarmedIn .awaitReset))).record 0 = some alarm := by
  decide +kernel

theorem test_withdraw :
    ((after (.withdraw .a) (asking .a (ask 0x34#8 [0#8, 1#8]) alarmed)).slot 0) = ⟨1#8, .free⟩ := by
  decide +kernel

theorem test_withdraw_not_owner :
    answer .b (.withdraw .b) (asking .b (ask 0x34#8 [0#8, 1#8]) alarmed) = some (.notOwner, []) := by
  decide +kernel

/-! ### Queries -/

theorem test_find : answer .a (.find .a) (asking .a (ask 0x40#8 [0#8, 1#8]) alarmed) = some (.ok, [0#8, 1#8]) := by
  decide +kernel

theorem test_find_other_link :
    answer .b (.find .b) (asking .b (ask 0x40#8 [0#8, 1#8]) alarmed) = some (.notFound, []) := by
  decide +kernel

/-- The nineteen bytes of R185 for the alarm. -/
theorem test_query :
    answer .b (.query .b) (asking .b (ask 0x41#8 [0#8, 1#8]) alarmed) =
      some (.ok, [1#8, 0#8, 1#8, 0#8, 0#8, 3#8, 2#8, 1#8, 2#8, 0x0F#8, 0#8, 0#8, 0#8, 0#8, 1#8, 0#8, 0#8, 1#8, 1#8]) := by
  decide +kernel

/-- Owner A in bits 7–6, ALARM in bits 5–4, NEW in bits 2–0 (R185). -/
theorem test_listGroup :
    answer .a (.listGroup .a) (asking .a (ask 0x42#8 [0#8, 0#8]) alarmed) =
      some (.ok, [1#8, 1#8, 1#8, 0#8, 1#8, 0#8, 1#8, 0x41#8]) := by
  decide +kernel

theorem test_panelStatus :
    answer .b (.panelStatus .b) (asking .b (ask 0x43#8 []) alarmed) =
      some (.ok, [1#8, 0#8, 2#8, 1#8, 0#8, 1#8, 1#8, 0#8, 0#8, 63#8, 1#8, 0#8, 0#8, 0#8]) := by
  decide +kernel

/-- The default map's last group (R70). -/
theorem test_readMap :
    answer .b (.readMap .b) (asking .b (ask 0x44#8 [23#8, 0#8]) manned) =
      some (.ok, [0#8, 0#8, 4#8, 92#8, 93#8, 94#8, 95#8]) := by
  decide +kernel

/-! ### The primary's requests -/

theorem test_acknowledgeHandles :
    answer .a (.acknowledgeHandles .a) (asking .a (ask 0x50#8 [1#8, 1#8, 0#8, 1#8]) alarmed) = some (.ok, [1#8]) := by
  decide +kernel

/-- The other link's CLEARED_NEW record of latch ACK leaves a tombstone ACKNOWLEDGED (R29, R32). -/
theorem test_acknowledgeHandles_tombstone :
    let r := { alarm with owner := some .b, latch := .ack, state := .clearedNew }
    ((after (.acknowledgeHandles .a) (asking .a (ask 0x50#8 [1#8, 1#8, 0#8, 1#8]) (holding 0 r manned))).slot 0).content =
      .tombstone { owner := .b, key := 1#16, reason := .acknowledged, stateAt := .clearedNew } := by
  decide +kernel

/-- An acknowledged alarm demands no horn (R115). -/
theorem test_acknowledgeAllVisible :
    (after (.acknowledgeAllVisible .a) (asking .a (ask 0x50#8 [2#8]) alarmed)).horn.state = .off := by
  decide +kernel

theorem test_remoteResetHandles :
    answer .a (.remoteResetHandles .a) (asking .a (ask 0x51#8 [1#8, 1#8, 0#8, 1#8]) (alarmedIn .acked)) =
      some (.ok, [0#8]) := by
  decide +kernel

/-- The other link's AWAIT_RESET record leaves a tombstone RESET (R29, R33). -/
theorem test_remoteResetHandles_tombstone :
    let r := { alarm with owner := some .b, state := .awaitReset }
    ((after (.remoteResetHandles .a) (asking .a (ask 0x51#8 [1#8, 1#8, 0#8, 1#8]) (holding 0 r manned))).slot 0).content =
      .tombstone { owner := .b, key := 1#16, reason := .reset, stateAt := .awaitReset } := by
  decide +kernel

theorem test_remoteResetAllVisible :
    ((after (.remoteResetAllVisible .a) (asking .a (ask 0x51#8 [2#8]) (alarmedIn .awaitReset))).slot 0).isFree =
      true := by
  decide +kernel

theorem test_silence : answer .a (.silence .a) (asking .a (ask 0x52#8 []) alarmed) = some (.ok, [1#8]) := by
  decide +kernel

/-- The other link's record leaves a tombstone RETIRED_BY_PRIMARY, in its owner's changed set (R14, R24). -/
theorem test_retire :
    ((after (.retire .a) (asking .a (ask 0x53#8 [0#8, 1#8])
      (holding 0 { alarm with owner := some .b } manned))).slot 0).content =
      .tombstone { owner := .b, key := 1#16, reason := .retiredByPrimary, stateAt := .new } := by
  decide +kernel

theorem test_stageMap :
    ((after (.stageMap .a) (asking .a (ask 0x54#8 [23#8, 1#8, 2#8, 95#8, 0#8]) manned)).map.staged.get 23) =
      { points := [95, 0], idle := 1#8 } := by
  decide +kernel

/-- Point 0 of group 0 staged for group 1 too (R74). -/
theorem test_commitMap_conflict :
    answer .a (.commitMap .a) (asking .a (ask 0x55#8 []) (manned.stageEntry 1 { points := [0], idle := 0#8 })) =
      some (.mapConflict, [0#8, 0#8, 1#8]) := by
  decide +kernel

theorem test_commitMap : answer .a (.commitMap .a) (asking .a (ask 0x55#8 []) manned) = some (.accepted, []) := by
  decide +kernel

theorem test_abortMap :
    (after (.abortMap .a) (asking .a (ask 0x56#8 []) committing)).map.commit = .idle := by
  decide +kernel

theorem test_lampTest :
    (after (.lampTest .a) (asking .a (ask 0x57#8 [10#8]) manned)).panel.lamp.timedEnd = some 10000000 := by
  decide +kernel

theorem test_lampTest_eleven :
    answer .a (.lampTest .a) (asking .a (ask 0x57#8 [11#8]) manned) = some (.badRequest, []) := by
  decide +kernel

/-- Key modes 2: SILENCE REMOTE, the others LOCAL (R185). -/
theorem test_configure :
    (after (.configure .a) (asking .a (ask 0x58#8 [1#8, 2#8, 1#8, 1#8]) manned)).keys.modes =
      { ack := .isLocal, silence := .remote, reset := .isLocal, test := .isLocal } := by
  decide +kernel

theorem test_restart : (after (.restart .a) (asking .a (ask 0x59#8 []) alarmed)).slot 0 = ⟨1#8, .free⟩ := by
  decide +kernel

theorem test_restart_busy :
    answer .a (.restart .a) (asking .a (ask 0x59#8 []) committing) = some (.busy, []) := by
  decide +kernel

/-! ### Keys -/

theorem test_ackKeyPress : (after .ackKeyPress (closing .ack alarmed)).record 0 = some { alarm with state := .acked } := by
  decide +kernel

/-- The second of the two keys starts the chord, 4 s after its 20 ms (R111). -/
theorem test_ackKeyPress_chord :
    (after .ackKeyPress (closing .ack (manned.setKeys { manned.keys with
      debounced := manned.keys.debounced.set .reset .closed }))).keys.chord = .timing 4020000 := by
  decide +kernel

theorem test_silenceKeyPress : (after .silenceKeyPress (closing .silence alarmed)).horn.state = .off := by
  decide +kernel

theorem test_resetKeyPress :
    ((after .resetKeyPress (closing .reset (holding 0 { alarm with owner := none, state := .awaitReset } manned))).slot
      0).isFree = true := by
  decide +kernel

theorem test_testKeyPress :
    (after .testKeyPress (closing .test manned)).panel.lamp =
      { running := true, timedEnd := some 1020000, keyHold := true } := by
  decide +kernel

theorem test_testKeyRelease :
    (after .testKeyRelease (opening .test (manned.setLamp ⟨true, some 20000, true⟩))).panel.lamp.running = false := by
  decide +kernel

theorem test_ackKeyRelease :
    (after .ackKeyRelease (opening .ack (manned.setKeys { manned.keys with chord := .fired }))).keys.chord = .idle := by
  decide +kernel

theorem test_resetKeyRelease :
    (after .resetKeyRelease (opening .reset (manned.setKeys { manned.keys with chord := .timing 9 }))).keys.chord =
      .idle := by
  decide +kernel

theorem test_silenceKeyRelease : (after .silenceKeyRelease (opening .silence manned)).keys.debounced.silence = .opened := by
  decide +kernel

theorem test_keyInputChange :
    (after (.keyInputChange 30 .reset .closed) manned).keys.timing.reset = some 30 := by
  decide +kernel

theorem test_chordFire :
    ((after .chordFire (orphaned.setKeys { orphaned.keys with chord := .timing 9 })).slot 0).isFree = true := by
  decide +kernel

/-! ### Timers -/

theorem test_tick : ((after .tick manned).session .a).keepalive = some { interval := 9, count := 8, startIn := 0 } := by
  decide +kernel

/-- A running count never shows 0: at its last boundary it stays at 1, and its EXPIRE is due (R8, R38). -/
theorem test_tick_due :
    (after .tick (holding 0 { alarm with lifetime := some ⟨5, 1, 0, false⟩ } manned)).record 0 =
      some { alarm with lifetime := some ⟨5, 1, 0, true⟩ } := by
  decide +kernel

/-- An EXPIRE that moves the record on stops the lifetime at 0 (R31). -/
theorem test_expire_stops :
    (after (.expire 0) (holding 0 { alarm with lifetime := some ⟨5, 1, 0, true⟩ } manned)).record 0 =
      some { alarm with state := .clearedNew, lifetime := some ⟨5, 0, 0, false⟩ } := by
  decide +kernel

/-- A STEADY record that expires leaves its owner a tombstone EXPIRED (R29, R31). -/
theorem test_expire :
    ((after (.expire 0) (holding 0
      { alarm with cls := .status, latch := .none, state := .steady, lifetime := some ⟨5, 1, 0, true⟩ } manned)).slot
        0).content = .tombstone { owner := .a, key := 1#16, reason := .expired, stateAt := .steady } := by
  decide +kernel

theorem test_keepaliveExpiry :
    ((after (.keepaliveExpiry .b)
      (manned.setSession .b { opened .standby with keepalive := some ⟨9, 0, 0⟩ })).session .b) = .out .lost := by
  decide +kernel

/-- FAST is on in frame 1, at the group's fourth point (R62, R86, R87). -/
theorem test_frameStart : (after .frameStart alarmed).panel.points.get 3 = true := by
  decide +kernel

theorem test_frameStart_cycle :
    (after .frameStart (manned.setPanel { manned.panel with frame := 63 })).time =
      { clock := 1000000, ticks := 0, cycles := 1, samples := 0 } := by
  decide +kernel

/-- The new map's idle glyph is lit in the very frame 0 that completes the commit (R76, R88). -/
theorem test_commitCompletion :
    let t := after .commitCompletion cycleEnd
    t.panel.frame = 0 ∧ t.map.commit = .idle ∧ t.panel.points.get 95 = true := by
  decide +kernel

/-- A FRAME_START that completes a commit leaves nothing to COMMIT_COMPLETION (R76; assumption 7). -/
theorem test_commitCompletion_done : after .commitCompletion (after .frameStart cycleEnd) = after .frameStart cycleEnd := by
  decide +kernel

theorem test_lampTestEnd :
    (after .lampTestEnd (manned.setLamp ⟨true, some 500, false⟩)).panel.lamp = .idle := by
  decide +kernel

theorem test_hornPhaseEnd : (after .hornPhaseEnd alarmed).horn.phaseEnd = 500000 := by
  decide +kernel

/-- 4399 mV is below 4.40 V and not below 4.15 V (R122, R123). -/
theorem test_supplySample : (after (.supplySample 4399) manned).supply.level = .low := by
  decide +kernel

/-- The second sample in a row above 4.50 V leaves LOW (R124). -/
theorem test_supplySample_rise :
    (after (.supplySample 4501) (manned.setSupply ⟨.low, 1, true⟩)).supply = ⟨.normal, 0, true⟩ := by
  decide +kernel

/-! ### Device -/

theorem test_deviceReset : (after .deviceReset alarmed).slot 0 = ⟨0#8, .free⟩ := by
  decide +kernel

theorem test_resetRelease :
    (after .resetRelease { (closing .test State.reset) with held := true }).keys.timing.test = some 0 := by
  decide +kernel

/-! ### The interface -/

/-- No word spells a command (assumption 14). -/
theorem test_withFetchWord : (State.reset.withFetchWord 8 0x12).pending = [] := by decide

/-! ### Witnesses: states and operands that meet the hypotheses of each statement -/

theorem asks_asking {l : Link} {q : Request} {s : State} (h : s.held = false) (d : s.sessions.takeoverDue = none)
    (w : s.sessions.waiting ≠ some l) : (asking l q s).asks l q :=
  ⟨⟨h, d⟩, w, by cases l <;> rfl⟩

theorem reset_ready : State.reset.ready := ⟨rfl, rfl⟩
theorem manned_ready : manned.ready := ⟨rfl, rfl⟩

/-- Any request of Link A of the manned panel executes, and Link A may send the primary's requests. -/
theorem manned_asks (q : Request) : (asking .a q manned).asks .a q ∧ (asking .a q manned).commands .a :=
  ⟨asks_asking rfl rfl (by decide), rfl, rfl⟩

/-- Any request of Link B of the manned panel executes, in session and not of the primary. -/
theorem manned_asks_b (q : Request) : (asking .b q manned).asks .b q ∧ (asking .b q manned).inSession .b = true ∧
    (asking .b q manned).sessions.primary ≠ some .b :=
  ⟨asks_asking rfl rfl (by decide), rfl, by
    show some Link.a ≠ some Link.b
    decide⟩

/-- Any request of Link A of the panel with its alarm executes, with the alarm under its handle. -/
theorem alarmed_asks (q : Request) : (asking .a q alarmed).asks .a q ∧ (asking .a q alarmed).commands .a ∧
    (asking .a q alarmed).table.resolve { slot := 0, gen := 1#8 } = some alarm ∧ alarm.owner = some .a ∧ alarm.Sound :=
  ⟨asks_asking rfl rfl (by decide), ⟨rfl, rfl⟩, by
    show alarmed.table.resolve { slot := 0, gen := 1#8 } = some alarm
    decide +kernel, rfl, record_sound_of_check (by decide)⟩

theorem alarmed_ownership (q : Request) : OwnershipSound (asking .a q alarmed) :=
  ownershipSound_of_check (by
    show ownershipCheck alarmed = true
    decide +kernel)

theorem witness_HeldPartTakesNoEvent :
    ({ manned with held := true } : State).held = true ∧ Instr.tick ≠ .deviceReset ∧ Instr.tick ≠ .resetRelease ∧
      ∀ dt k x, Instr.tick ≠ .keyInputChange dt k x :=
  ⟨rfl, by decide, by decide, by intro _ _ _ h; cases h⟩

/-- An empty slot, another row's request and a TAKEOVER that waits; nothing due; a key not timed and one that stands so. -/
theorem witness_EveryCommandCompletes :
    (requestRow (.ping .a) = some (.a, hasCode codePing) ∧ manned.ready ∧ (manned.port .a).slot = .empty) ∧
    ((asking .a (ask 0x13#8 []) manned).ready ∧ hasCode codePing (ask 0x13#8 []) = false) ∧
    (let s := asking .b (ask 0x21#8 []) { manned with sessions := { manned.sessions with waiting := some .b } }
     s.ready ∧ s.sessions.waiting = some .b ∧ hasCode codeTakeover (ask 0x21#8 []) = true) ∧
    (alarmed.record 0 = some alarm ∧ alarm.expiryDue = false ∧ alarmed.keepaliveDue .a = false) ∧
    (manned.keys.timing.ack = none ∧ manned.keys.debounced.ack = .opened ∧ manned.keys.chord = .idle) ∧
    manned.map.commit = .idle ∧ manned.panel.lamp.running = false ∧ manned.horn.state = .off :=
  ⟨⟨rfl, manned_ready, rfl⟩, ⟨⟨rfl, rfl⟩, by decide⟩, ⟨⟨rfl, rfl⟩, rfl, by decide⟩,
    ⟨by decide +kernel, by decide, by decide +kernel⟩, ⟨rfl, rfl, rfl⟩, rfl, rfl, rfl⟩

/-- The lowest code of no request, in any session state; a PING out of session. -/
theorem witness_OutOfSessionRefused :
    (requestRow (.unknownRequest .a) = some (.a, namesNoRequest) ∧ (asking .a (ask 0x00#8 []) manned).asks .a (ask 0x00#8 []) ∧
      namesNoRequest (ask 0x00#8 []) = true) ∧
    (requestRow (.ping .a) = some (.a, hasCode codePing) ∧
      (asking .a (ask 0x12#8 []) State.reset).asks .a (ask 0x12#8 []) ∧ hasCode codePing (ask 0x12#8 []) = true ∧
      Instr.ping .a ≠ .unknownRequest .a ∧ Instr.ping .a ≠ .attach .a ∧
      (asking .a (ask 0x12#8 []) State.reset).inSession .a = false) :=
  ⟨⟨rfl, (manned_asks _).1, by decide⟩, rfl, asks_asking rfl rfl (by decide), by decide, by decide, by decide, rfl⟩

theorem witness_RoleAndBusyRefusals :
    (requestRow (.yieldRole .b) = some (.b, hasCode codeYield) ∧ primaryRow (.yieldRole .b) = true ∧
      (asking .b (ask 0x22#8 []) manned).asks .b (ask 0x22#8 []) ∧ hasCode codeYield (ask 0x22#8 []) = true ∧
      (asking .b (ask 0x22#8 []) manned).inSession .b = true ∧
      (asking .b (ask 0x22#8 []) manned).sessions.primary ≠ some .b) ∧
    (let s := asking .a (ask 0x57#8 [1#8]) (manned.setSupply ⟨.critical, 0, true⟩)
     s.asks .a (ask 0x57#8 [1#8]) ∧ s.commands .a ∧ s.supply.level = .critical) ∧
    (let s := asking .b (ask 0x21#8 []) manned
     s.asks .b (ask 0x21#8 []) ∧ (s.session .b).state = .standby ∧ s.sessions.primary ≠ none ∧
      s.sessions.permit ≠ some .b) ∧
    (let s := asking .b (ask 0x44#8 [0#8, 1#8]) manned
     s.asks .b (ask 0x44#8 [0#8, 1#8]) ∧ s.inSession .b = true ∧ s.sessions.primary ≠ some .b) ∧
    (let s (q : Request) := asking .a q committing
     (∀ q, (s q).asks .a q ∧ (s q).commands .a ∧ (s q).map.commit = .pending) ∧
      (parseStage (ask 0x54#8 [0#8, 0#8, 0#8]).payload).isSome = true ∧ (ask 0x55#8 []).payload = []) ∧
    (let q := ask 0x57#8 [11#8]
     requestRow (.lampTest .a) = some (.a, hasCode codeLampTest) ∧ (asking .a q manned).asks .a q ∧
      hasCode codeLampTest q = true ∧ Instr.lampTest .a ≠ .unknownRequest .a ∧ (asking .a q manned).inSession .a = true ∧
      RoleAdmits (asking .a q manned) (.lampTest .a) .a q ∧ wellFormedFor (.lampTest .a) q.payload = false) ∧
    (let q := ask 0x34#8 [0#8, 0#8]
     RoleAdmits (asking .b q alarmed) (.withdraw .b) .b q ∧ namedHandle (.withdraw .b) q.payload = some ⟨0, 0#8⟩ ∧
      ∀ x, ¬(asking .b q alarmed).names ⟨0, 0#8⟩ x) ∧
    (let q := ask 0x34#8 [0#8, 1#8]
     (asking .b q alarmed).asks .b q ∧ (asking .b q alarmed).inSession .b = true ∧
      RoleAdmits (asking .b q alarmed) (.withdraw .b) .b q ∧ namedHandle (.withdraw .b) q.payload = some ⟨0, 1#8⟩ ∧
      (asking .b q alarmed).names ⟨0, 1#8⟩ alarm ∧ ownerRow (.withdraw .b) = true ∧ alarm.owner ≠ some .b) :=
  ⟨⟨rfl, rfl, (manned_asks_b _).1, by decide, rfl, by decide⟩,
    ⟨asks_asking rfl rfl (by decide), ⟨rfl, rfl⟩, rfl⟩,
    ⟨(manned_asks_b _).1, rfl, by decide, by decide⟩,
    ⟨(manned_asks_b _).1, rfl, by decide⟩,
    ⟨fun _ => ⟨asks_asking rfl rfl (by decide), ⟨rfl, rfl⟩, rfl⟩, by decide, rfl⟩,
    ⟨rfl, (manned_asks _).1, by decide, by decide, rfl,
      ⟨fun _ => rfl, fun _ => (by decide : Level.normal ≠ .critical), by simp, by simp⟩, by decide⟩,
    ⟨⟨by decide, by simp, by simp, by simp⟩, by decide, fun x h => h.1 rfl⟩,
    asks_asking rfl rfl (by decide), rfl, ⟨by decide, by simp, by simp, by simp⟩, by decide,
    ⟨by decide, by decide +kernel, by
      show alarmed.record 0 = some alarm
      decide +kernel⟩, rfl, by decide⟩

/-- A PING with a payload is answered BAD_REQUEST. -/
theorem witness_RefusalChangesNothing :
    let s := asking .a (ask 0x12#8 [0#8]) manned
    requestRow (.ping .a) = some (.a, hasCode codePing) ∧ s.asks .a (ask 0x12#8 [0#8]) ∧
      hasCode codePing (ask 0x12#8 [0#8]) = true ∧
      ∃ t, exec (.ping .a) s = .next t ∧ (t.port .a).slot = .answered ⟨7#8, .badRequest, []⟩ ∧
        Result.badRequest ≠ .ok ∧ Result.badRequest ≠ .accepted :=
  ⟨rfl, (manned_asks _).1, by decide, _, rfl, by decide +kernel, by decide, by decide⟩

/-- The shortest and the longest payload; the longest period, and none; a length of 57, a frame without its CRC and a wrong
CRC. -/
theorem witness_FramesReadBack :
    ((ask 0x12#8 []).payload.length ≤ 56 ∧ (ask 0x30#8 (List.replicate 56 0xFF#8)).payload.length ≤ 56) ∧
    (let p : PostPayload := ⟨0xFFFF#16, 23, .alarm, 15, .ack, .quiet, .drop, 0xFF#8, 65535⟩
     p.period < 65536 ∧ ({ p with period := 0 } : PostPayload).period < 65536) ∧
    (56 < (57#8).toNat ∧ ([] : List Byte).length ≤ (0#8).toNat ∧
      ∃ c, [0x36#8][(0#8).toNat]? = some c ∧ c ≠ crc8 ([0x12#8, 0x05#8, 0x00#8] ++ [0x36#8].take (0#8).toNat)) := by
  refine ⟨by decide, by decide, by decide, by decide, 0x36#8, rfl, by decide +kernel⟩

/-- The kind bytes beside the four kinds. -/
theorem witness_PeekShowsStatus :
    State.reset.ready ∧ ∀ k ∈ [0x03#8, 0x0D#8, 0x0F#8, 0xFF#8], k ≠ 0x00#8 ∧ k ≠ 0x01#8 ∧ k ≠ 0x02#8 ∧ k ≠ 0x0E#8 :=
  ⟨reset_ready, by decide⟩

theorem witness_SendTakesOneRequest :
    let frame : List Byte := [0x12#8, 0x05#8, 0x00#8, 0x35#8]
    let q : Request := ⟨0x12#8, 0x05#8, []⟩
    let kept (code : Byte) : State :=
      manned.setPort .a { Port.reset with retained := some ⟨code, ⟨0x05#8, .ok, []⟩⟩ }
    checkFrame [0x12#8, 0x05#8, 0x00#8, 0x36#8] = none ∧ checkFrame frame = some q ∧
      ((asking .a (ask 0x12#8 []) manned).ready ∧
        ((asking .a (ask 0x12#8 []) manned).port .a).slot.isExecuting = true) ∧
      ((kept 0x12#8).ready ∧ ((kept 0x12#8).port .a).slot.isExecuting = false ∧
        ((kept 0x12#8).port .a).retained = some ⟨q.code, ⟨q.seq, .ok, []⟩⟩) ∧
      ((kept 0x13#8).ready ∧ ((kept 0x13#8).port .a).slot.isExecuting = false ∧
        ∀ a : Retained, ((kept 0x13#8).port .a).retained = some a → ¬(a.response.seq = q.seq ∧ a.code = q.code)) :=
  ⟨by decide +kernel, by decide +kernel, ⟨⟨rfl, rfl⟩, rfl⟩, ⟨⟨rfl, rfl⟩, rfl, rfl⟩, ⟨rfl, rfl⟩, rfl, by
    intro a h
    cases h
    decide⟩

theorem witness_FetchShiftsResponse :
    let withSlot (x : ReqSlot) (k : Option Retained) : State :=
      manned.setPort .a { Port.reset with slot := x, retained := k }
    (∀ x k, (withSlot x k).ready) ∧ ((withSlot (.answered ⟨7#8, .ok, []⟩) none).port .a).slot = .answered ⟨7#8, .ok, []⟩ ∧
      ((withSlot (.executing (ask 0x12#8 [])) none).port .a).slot = .executing (ask 0x12#8 []) ∧
      ((withSlot .empty (some ⟨0x12#8, ⟨7#8, .ok, []⟩⟩)).port .a).slot = .empty ∧
      ((withSlot .empty (some ⟨0x12#8, ⟨7#8, .ok, []⟩⟩)).port .a).retained = some ⟨0x12#8, ⟨7#8, .ok, []⟩⟩ ∧
      ((withSlot .empty none).port .a).slot = .empty ∧ ((withSlot .empty none).port .a).retained = none :=
  ⟨fun _ _ => ⟨rfl, rfl⟩, rfl, rfl, rfl, rfl, rfl, rfl⟩

theorem witness_LinkResetEmptiesPort :
    (State.reset.ready ∧ (State.reset.session .a).state = .offline) ∧
    ((State.reset.setSession .a (.out .lost)).ready ∧ ((State.reset.setSession .a (.out .lost)).session .a).state = .lost) ∧
    (alarmed.ready ∧ alarmed.inSession .a = true ∧ OwnershipSound alarmed) :=
  ⟨⟨reset_ready, rfl⟩, ⟨⟨rfl, rfl⟩, rfl⟩, ⟨rfl, rfl⟩, rfl, ownershipSound_of_check (by decide +kernel)⟩

/-- The shortest and the longest keepalive. -/
theorem witness_AttachOpensSession :
    ∀ k ∈ [1#8, 255#8],
      let q := ask 0x10#8 [flagByte true, k, flagByte false]
      ((asking .a q manned).asks .a q ∧ (asking .a q manned).inSession .a = true) ∧
      (asking .a q State.reset).asks .a q ∧ k ≠ 0#8 ∧ (asking .a q State.reset).inSession .a = false := by
  intro k hk
  refine ⟨⟨(manned_asks _).1, rfl⟩, asks_asking rfl rfl (by decide), ?_, rfl⟩
  simp only [List.mem_cons, List.not_mem_nil, or_false] at hk
  rcases hk with rfl | rfl <;> decide

theorem witness_DetachDeparts :
    ∀ all : Bool,
      let q := ask 0x11#8 [if all then 0#8 else 1#8]
      (asking .a q alarmed).asks .a q ∧ (asking .a q alarmed).inSession .a = true ∧ OwnershipSound (asking .a q alarmed) :=
  fun _ => ⟨(alarmed_asks _).1, rfl, alarmed_ownership _⟩

theorem witness_PingAndSetAttention :
    ∀ q ∈ [ask 0x12#8 [], ask 0x13#8 (bytes16 0x1FFF#16), ask 0x13#8 (bytes16 0x2000#16)],
      (asking .a q manned).asks .a q ∧ (asking .a q manned).inSession .a = true :=
  fun q _ => ⟨(manned_asks q).1, rfl⟩

/-- Nine changed slots, a LIVE record and a tombstone among the eight reported. -/
theorem witness_CollectDrainsSets :
    let s := asking .a (ask 0x14#8 []) reporting
    s.asks .a (ask 0x14#8 []) ∧ s.inSession .a = true ∧ OwnershipSound s ∧ (s.session .a).changed.length = 9 ∧
      s.record 0 = some alarm ∧ (s.slot 7).isTombstone = true :=
  ⟨asks_asking rfl rfl (by decide), rfl, ownershipSound_of_check (by
    show ownershipCheck reporting = true
    decide +kernel), rfl, by
    show reporting.record 0 = some alarm
    decide +kernel, by
    show (reporting.slot 7).isTombstone = true
    decide +kernel⟩

/-- The permit held by Link B while its TAKEOVER waits for a commit. -/
def waitingPanel : State :=
  asking .b (ask 0x21#8 []) ({ permitted with sessions := { permitted.sessions with waiting := some .b } }.setMap
    { manned.map with commit := .pending })

theorem witness_PermitGrantsAndWithdraws :
    (∀ q, (asking .a q manned).asks .a q ∧ (asking .a q manned).commands .a ∧ RolesSound (asking .a q manned) ∧
      ((asking .a q manned).session .b).state = .standby ∧ (asking .a q manned).sessions.permit = none) ∧
    (let s := asking .a (ask 0x20#8 [1#8]) (manned.setSession .b (.out .lost))
     s.asks .a (ask 0x20#8 [1#8]) ∧ s.commands .a ∧ RolesSound s ∧ (s.session .b).state ≠ .standby) ∧
    (let s := asking .a (ask 0x20#8 [2#8]) permitted
     s.asks .a (ask 0x20#8 [2#8]) ∧ s.commands .a ∧ RolesSound s ∧ s.sessions.permit = some .b ∧
      s.sessions.waiting = none) ∧
    (let s := asking .a (ask 0x20#8 [2#8]) waitingPanel
     s.asks .a (ask 0x20#8 [2#8]) ∧ s.commands .a ∧ RolesSound s ∧ s.sessions.waiting = some .b ∧
      (s.port .b).slot = .executing (ask 0x21#8 [])) :=
  ⟨fun _ => ⟨(manned_asks _).1, (manned_asks _).2,
      rolesSound_of_check (by
        show rolesCheck manned = true
        decide +kernel), rfl, rfl⟩,
    ⟨asks_asking rfl rfl (by decide), ⟨rfl, rfl⟩, rolesSound_of_check (by decide +kernel), by decide⟩,
    ⟨asks_asking rfl rfl (by decide), ⟨rfl, rfl⟩, rolesSound_of_check (by decide +kernel), rfl, rfl⟩,
    asks_asking rfl rfl (by decide), ⟨rfl, rfl⟩, rolesSound_of_check (by decide +kernel), rfl, rfl⟩

theorem witness_TakeoverTakesRole :
    let q := ask 0x21#8 []
    (let s := asking .b q { manned with sessions := { manned.sessions with primary := none } }
     s.asks .b q ∧ (s.session .b).state = .standby ∧ s.sessions.primary = none) ∧
    (let s := asking .b q permitted
     s.asks .b q ∧ (s.session .b).state = .standby ∧ s.sessions.primary = some Link.b.other ∧
      s.sessions.permit = some .b ∧ s.map.commit = .idle) ∧
    (let s := asking .b q (permitted.setMap { manned.map with commit := .pending })
     s.asks .b q ∧ (s.session .b).state = .standby ∧ s.sessions.primary = some Link.b.other ∧
      s.sessions.permit = some .b ∧ s.map.commit = .pending) ∧
    ((asking .a q manned).asks .a q ∧ ((asking .a q manned).session .a).state = .primary) :=
  ⟨⟨asks_asking rfl rfl (by decide), rfl, rfl⟩, ⟨asks_asking rfl rfl (by decide), rfl, rfl, rfl, rfl⟩,
    ⟨asks_asking rfl rfl (by decide), rfl, rfl, rfl, rfl⟩, (manned_asks _).1, rfl⟩

theorem witness_DueTakeoverCompletes :
    let s := asking .b (ask 0x21#8 []) { permitted with sessions := { permitted.sessions with takeoverDue := some .b } }
    s.held = false ∧ s.sessions.takeoverDue = some .b ∧ (s.port .b).slot = .executing (ask 0x21#8 []) ∧
      Instr.tick ≠ .deviceReset ∧ Instr.tick ≠ .resetRelease :=
  ⟨rfl, rfl, rfl, by decide, by decide⟩

theorem witness_YieldHandsOver :
    let q := ask 0x22#8 []
    ((asking .a q manned).asks .a q ∧ (asking .a q manned).commands .a ∧ (asking .a q manned).map.commit = .idle ∧
      ((asking .a q manned).session .b).state = .standby) ∧
    (let s := asking .a q (manned.setSession .b (.out .offline))
     s.asks .a q ∧ s.commands .a ∧ s.map.commit = .idle ∧ (s.session .b).state ≠ .standby) :=
  ⟨⟨(manned_asks _).1, (manned_asks _).2, rfl, rfl⟩, asks_asking rfl rfl (by decide), ⟨rfl, rfl⟩, rfl, by decide⟩

/-- A record of Link A; an orphan under a key held live, and under the highest key. -/
theorem witness_ClaimOrphanTakesOwnership :
    let q (k : Word16) := ask 0x23#8 ([byteOf 0, 1#8] ++ bytes16 k)
    ((asking .a (q 5#16) alarmed).asks .a (q 5#16) ∧ (asking .a (q 5#16) alarmed).commands .a ∧
      (asking .a (q 5#16) alarmed).table.resolve { slot := 0, gen := 1#8 } = some alarm ∧ alarm.owner ≠ none) ∧
    (let s := asking .a (q 5#16) (holding 1 { alarm with key := 5#16 } orphaned)
     s.asks .a (q 5#16) ∧ s.commands .a ∧ s.table.resolve { slot := 0, gen := 1#8 } = some { alarm with owner := none } ∧
      s.record 1 = some { alarm with key := 5#16 }) ∧
    (let s := asking .a (q 0xFFFF#16) orphaned
     s.asks .a (q 0xFFFF#16) ∧ s.commands .a ∧
      s.table.resolve { slot := 0, gen := 1#8 } = some { alarm with owner := none } ∧
      ∀ j p, s.record j = some p → p.owner = some .a → p.key ≠ 0xFFFF#16) :=
  ⟨⟨(alarmed_asks _).1, (alarmed_asks _).2.1, (alarmed_asks _).2.2.1, by decide⟩,
    ⟨asks_asking rfl rfl (by decide), ⟨rfl, rfl⟩, by decide +kernel, by decide +kernel⟩,
    asks_asking rfl rfl (by decide), ⟨rfl, rfl⟩, by decide +kernel, fun j p h o => by
      have all : ∀ j : SlotIx, (orphaned.record j).all (fun p => p.owner == none) = true := by decide +kernel
      have x := all j
      rw [show orphaned.record j = some p from h, Option.all_some, o] at x
      cases x⟩

/-- The alarms' reserve for an ALARM alone, a table of 64 LIVE records for none. -/
def fullTable (free : Nat) : State :=
  { manned with
    table :=
      { slots := Vector.ofFn fun i =>
          if i.val < free then { gen := 0#8, content := .free } else { gen := 1#8, content := .live { alarm with owner := none } }
        arrival := (List.finRange 64).drop free
        low := decide (free ≤ 4) } }

theorem fullTable_keys (free : Nat) (k : Word16) (j : SlotIx) (q : Record) (h : (fullTable free).record j = some q) :
    q.owner = some .a → q.key ≠ k := by
  intro o
  have : (fullTable free).record j = if j.val < free then none else some { alarm with owner := none } := by
    unfold State.record Table.record Table.slot fullTable
    by_cases c : j.val < free <;> simp [Vector.get_eq_getElem, c]
  rw [this] at h
  split at h <;> cases h
  cases o

/-- An ALARM takes the last free slot, another class the fifth; each fails one below. -/
theorem witness_PostAllocatesOrRefuses :
    let body (c : Sys2Proof.Machine.Class) : PostPayload := ⟨1#16, 0, c, 0, .ack, .quiet, .drop, 1#8, 0⟩
    let q (c : Sys2Proof.Machine.Class) : Request :=
      ask 0x30#8 [0#8, 1#8, 0#8, c.code, 0#8, 1#8, 0#8, 0#8, 1#8, 0#8, 0#8, 0#8]
    (∀ c free, (asking .a (q c) (fullTable free)).asks .a (q c) ∧ (asking .a (q c) (fullTable free)).inSession .a = true ∧
      parsePost (q c).payload = some (body c) ∧
      ∀ j x, (asking .a (q c) (fullTable free)).record j = some x → x.owner = some .a → x.key ≠ (body c).key) ∧
    (1 ≤ (fullTable 1).table.freeCount ∧ ((fullTable 1).slot 0).isFree = true ∧
      ∀ j : SlotIx, j < 0 → ((fullTable 1).slot j).isFree = false) ∧
    (5 ≤ (fullTable 5).table.freeCount ∧ ((fullTable 5).slot 0).isFree = true) ∧
    ((fullTable 0).table.freeCount < 1 ∧ (fullTable 4).table.freeCount < 5) ∧
    (let s := asking .a (q .alarm) alarmed
     s.asks .a (q .alarm) ∧ s.record 0 = some alarm ∧ alarm.owner = some .a ∧ alarm.key = (body .alarm).key) :=
  ⟨fun c free => ⟨asks_asking rfl rfl (fun h => by cases h), rfl, by cases c <;> decide, fun j x h => fullTable_keys free _ j x h⟩,
    ⟨by decide +kernel, by decide +kernel, by intro j h; exact absurd h (by simp)⟩,
    ⟨by decide +kernel, by decide +kernel⟩, by decide +kernel, (alarmed_asks _).1, by decide +kernel, rfl, rfl⟩

/-- Every field selected, with the longest lifetime. -/
theorem witness_AmendAppliesSelection :
    let q := ask 0x31#8 [0#8, 1#8, 0x1F#8, 15#8, 0xFF#8, 0#8, 1#8, 0xFF#8, 0xFF#8]
    let p : AmendPayload := ⟨⟨0, 1#8⟩, some 15, some 0xFF#8, some .quiet, some .keep, some 65535⟩
    (asking .a q alarmed).asks .a q ∧ parseAmend q.payload = some p ∧ (asking .a q alarmed).inSession .a = true ∧
      (asking .a q alarmed).table.resolve p.handle = some alarm ∧ alarm.owner = some .a :=
  ⟨(alarmed_asks _).1, by decide, rfl, (alarmed_asks _).2.2.1, rfl⟩

theorem witness_AnnunciationTableHolds :
    (RecordEvent.clear = .clear ∨ RecordEvent.clear = .expire) ∧ Latch.ack ≠ .none ∧ Latch.ackReset ≠ .none := by
  decide

theorem witness_ClearDeliversEvent :
    let q := ask 0x32#8 [byteOf 0, 1#8]
    (asking .a q alarmed).asks .a q ∧ (asking .a q alarmed).inSession .a = true ∧
      (asking .a q alarmed).table.resolve { slot := 0, gen := 1#8 } = some alarm ∧ alarm.owner = some .a ∧ alarm.Sound :=
  ⟨(alarmed_asks _).1, rfl, (alarmed_asks _).2.2⟩

theorem witness_ReassertRenews :
    let q := ask 0x33#8 [byteOf 0, 1#8]
    ((asking .a q alarmed).asks .a q ∧ (asking .a q alarmed).inSession .a = true ∧
      (asking .a q alarmed).table.resolve { slot := 0, gen := 1#8 } = some alarm ∧ alarm.state = .new) ∧
    (let s := asking .a q (alarmedIn .acked)
     s.asks .a q ∧ s.inSession .a = true ∧
      s.table.resolve { slot := 0, gen := 1#8 } = some { alarm with state := .acked }) :=
  ⟨⟨(alarmed_asks _).1, rfl, (alarmed_asks _).2.2.1, rfl⟩, asks_asking rfl rfl (by decide), rfl, by decide +kernel⟩

theorem witness_WithdrawAndRetire :
    ∀ code ∈ [0x34#8, 0x53#8],
      let q := ask code [byteOf 0, 1#8]
      (asking .a q alarmed).asks .a q ∧ (asking .a q alarmed).commands .a ∧
        (asking .a q alarmed).table.resolve { slot := 0, gen := 1#8 } = some alarm ∧ alarm.owner = some .a :=
  fun _ _ => ⟨(alarmed_asks _).1, (alarmed_asks _).2.1, (alarmed_asks _).2.2.1, rfl⟩

/-- A slot joins a changed set between the lowest and the highest. -/
theorem witness_WithdrawAndRetire_joins :
    ([0, 63] : List SlotIx).Pairwise (· < ·) ∧ joinSlot 1 [0, 63] = [0, 1, 63] ∧ joinSlot 63 [0, 63] = [0, 63] := by
  decide

theorem witness_FindAndQueryRead :
    (let q := ask 0x40#8 (bytes16 1#16)
     (asking .a q alarmed).asks .a q ∧ (asking .a q alarmed).inSession .a = true ∧
      (asking .a q alarmed).record 0 = some alarm ∧ alarm.key = 1#16 ∧ OwnershipSound (asking .a q alarmed)) ∧
    (let q := ask 0x40#8 (bytes16 0xFFFF#16)
     (asking .a q (fullTable 0)).asks .a q ∧ (asking .a q (fullTable 0)).inSession .a = true ∧
      ∀ j x, (asking .a q (fullTable 0)).record j = some x → x.owner = some .a → x.key ≠ 0xFFFF#16) ∧
    (let q := ask 0x41#8 [byteOf 0, 1#8]
     (asking .a q alarmed).asks .a q ∧ (asking .a q alarmed).table.resolve { slot := 0, gen := 1#8 } = some alarm) :=
  ⟨⟨(alarmed_asks _).1, rfl, by decide +kernel, rfl, alarmed_ownership _⟩,
    ⟨asks_asking rfl rfl (by decide), rfl, fun j x h => fullTable_keys 0 _ j x h⟩,
    (alarmed_asks _).1, (alarmed_asks _).2.2.1⟩

/-- The last group and start index; the staged map read by the primary. -/
theorem witness_PanelQueriesRead :
    (let q := ask 0x42#8 [byteOf 23, byteOf 63]
     (asking .a q alarmed).asks .a q ∧ ∀ j ∈ (asking .a q alarmed).table.arrival, ((asking .a q alarmed).slot j).isLive = true) ∧
    (let q := ask 0x43#8 []
     (asking .a q alarmed).asks .a q ∧ (asking .a q alarmed).inSession .a = true) ∧
    (let q := ask 0x44#8 [byteOf 23, flagByte true]
     (asking .a q alarmed).asks .a q ∧ (asking .a q alarmed).sessions.primary = some .a) :=
  ⟨⟨(alarmed_asks _).1, by decide +kernel⟩, ⟨(alarmed_asks _).1, rfl⟩, (alarmed_asks _).1, rfl⟩

/-- One handle, one stale handle, and mode ALL_VISIBLE. -/
theorem witness_AcknowledgeAndRemoteReset :
    (∀ q, (asking .a q alarmed).asks .a q ∧ (asking .a q alarmed).commands .a) ∧
    parseTargets [1#8, 1#8, 0#8, 1#8] = some (.handles [⟨0, 1#8⟩]) ∧
    (∀ h ∈ [(⟨0, 1#8⟩ : Handle)], (alarmed.table.resolve h).isSome = true) ∧
    parseTargets [1#8, 1#8, 63#8, 1#8] = some (.handles [⟨63, 1#8⟩]) ∧
    (∃ h ∈ [(⟨63, 1#8⟩ : Handle)], (alarmed.table.resolve h).isSome = false) :=
  ⟨fun q => ⟨(alarmed_asks q).1, (alarmed_asks q).2.1⟩, by decide, by decide +kernel, by decide, by decide +kernel⟩

theorem witness_SilenceRequestSilences :
    let q := ask 0x52#8 []
    (asking .a q alarmed).asks .a q ∧ (asking .a q alarmed).commands .a :=
  ⟨(alarmed_asks _).1, (alarmed_asks _).2.1⟩

theorem witness_MapRequestsMoveCommit :
    (∀ q, (asking .a q manned).asks .a q ∧ (asking .a q manned).commands .a ∧ (asking .a q manned).map.commit = .idle) ∧
    (parseStage (23#8 :: 0#8 :: 8#8 :: (List.range 8).map fun n => byteOf (88 + n))).isSome = true ∧
    (PointsDisjoint manned.map.staged ∧ Limited manned.map.staged) ∧
    (∀ q, (asking .a q committing).asks .a q ∧ (asking .a q committing).commands .a ∧
      (asking .a q committing).map.commit = .pending) ∧
    (let s := asking .a (ask 0x55#8 []) (manned.stageEntry 1 { points := [0], idle := 0#8 })
     s.asks .a (ask 0x55#8 []) ∧ s.commands .a ∧ s.map.commit = .idle ∧ (0 : Point) ∈ (s.map.staged.get 0).points ∧
      (0 : Point) ∈ (s.map.staged.get 1).points ∧ (0 : Group) < 1 ∧
      (∀ k : Group, (0 : Point) ∈ (s.map.staged.get k).points → k < 1 → k = 0) ∧
      ∀ q : Point, q < 0 → ∀ j k, q ∈ (s.map.staged.get j).points → q ∈ (s.map.staged.get k).points → j = k) :=
  ⟨fun _ => ⟨(manned_asks _).1, (manned_asks _).2, rfl⟩, by decide,
    ⟨disjoint_of_check (by decide +kernel), limited_of_check (by decide +kernel)⟩,
    fun _ => ⟨asks_asking rfl rfl (by decide), ⟨rfl, rfl⟩, rfl⟩,
    asks_asking rfl rfl (by decide), ⟨rfl, rfl⟩, rfl, by decide +kernel, by decide +kernel, by decide,
    fun k _ h => Fin.lt_one_iff k |>.mp h, fun q h => absurd h (by simp)⟩

/-- One second and ten; a RUNNING test with its key hold clear, and set. -/
theorem witness_LampTestRuns :
    (∀ d ∈ [1, 10],
      let q := ask 0x57#8 [byteOf d]
      (asking .a q manned).asks .a q ∧ 1 ≤ d ∧ d ≤ 10 ∧ (asking .a q manned).commands .a ∧
        (asking .a q manned).supply.level ≠ .critical ∧ (asking .a q manned).panel.lamp.running = false) ∧
    (let s := asking .a (ask 0x57#8 [1#8]) (manned.setLamp ⟨true, some 9, false⟩)
     s.asks .a (ask 0x57#8 [1#8]) ∧ s.commands .a ∧ s.supply.level ≠ .critical ∧ s.panel.lamp.running = true ∧
      s.panel.lamp.timedEnd = some 9) ∧
    ∀ hold, (manned.setLamp ⟨true, some 9, hold⟩).ready ∧ (manned.setLamp ⟨true, some 9, hold⟩).panel.lamp.running = true ∧
      (manned.setLamp ⟨true, some 9, hold⟩).panel.lamp.timedEnd = some 9 ∧
      (manned.setLamp ⟨true, some 9, hold⟩).panel.lamp.keyHold = hold :=
  ⟨fun d hd => ⟨(manned_asks _).1, by revert d; decide, by revert d; decide, (manned_asks _).2, by
      show Level.normal ≠ .critical; decide, rfl⟩,
    ⟨asks_asking rfl rfl (by decide), ⟨rfl, rfl⟩, by decide, rfl, rfl⟩, fun _ => ⟨⟨rfl, rfl⟩, rfl, rfl, rfl⟩⟩

theorem witness_ConfigureStoresEveryField :
    let q := ask 0x58#8 [0#8, 15#8, 0#8, 0#8]
    (asking .a q manned).asks .a q ∧ (parseConfigure q.payload).isSome = true ∧ (asking .a q manned).commands .a :=
  ⟨(manned_asks _).1, by decide, (manned_asks _).2⟩

theorem witness_RestartEmptiesTable :
    let q := ask 0x59#8 []
    (asking .a q alarmed).asks .a q ∧ (asking .a q alarmed).commands .a ∧ (asking .a q alarmed).map.commit = .idle :=
  ⟨(alarmed_asks _).1, (alarmed_asks _).2.1, rfl⟩

/-- Stored LOCAL with a primary; every key. -/
theorem witness_LocalPressesAct :
    ∀ k, (closing k alarmed).ready ∧ (closing k alarmed).keys.timing.get k = some 0 ∧
      (closing k alarmed).keys.debounced.get k = .opened ∧ (closing k alarmed).actsLocally k ∧
      (closing k alarmed).panel.lamp.running = false :=
  fun k => ⟨⟨rfl, rfl⟩, by cases k <;> rfl, by cases k <;> rfl, .inr (by cases k <;> rfl), rfl⟩

/-- A key stored REMOTE while a primary exists; an ACK key during a lamp test. -/
theorem witness_ReportedPressesReachPrimary :
    (∀ k, let s := (closing k manned).setKeys { (closing k manned).keys with modes := manned.keys.modes.set k .remote }
      s.ready ∧ s.keys.timing.get k = some 0 ∧ s.keys.debounced.get k = .opened ∧ s.isReported k ∧
        s.sessions.primary = some .a ∧ s.inSession .a = true) ∧
    (let s := (closing .ack manned).setLamp ⟨true, some 9, false⟩
     s.ready ∧ s.keys.timing.get .ack = some 0 ∧ s.keys.debounced.get .ack = .opened ∧ s.isReported .ack) :=
  ⟨fun k => ⟨⟨rfl, rfl⟩, by cases k <;> rfl, by cases k <;> rfl, .inl (by
      unfold State.actsLocally
      cases k <;> decide), rfl, rfl⟩,
    ⟨rfl, rfl⟩, rfl, rfl, .inr ⟨.inl rfl, rfl⟩⟩

/-- The press in all its cases; the release of a held test whose timed end has passed, and has not. -/
theorem witness_TestKeyDrivesLampTest :
    (let s := closing .test manned
     s.ready ∧ s.keys.timing.test = some 0 ∧ s.keys.debounced.test = .opened ∧ s.actsLocally .test ∧
      s.supply.level ≠ .critical ∧ s.panel.lamp.running = false) ∧
    (let s := (closing .test manned).setSupply ⟨.critical, 0, true⟩
     s.ready ∧ s.keys.timing.test = some 0 ∧ s.keys.debounced.test = .opened ∧ s.actsLocally .test ∧
      s.supply.level = .critical) ∧
    (let s := (closing .test manned).setLamp ⟨true, some 9, false⟩
     s.ready ∧ s.keys.timing.test = some 0 ∧ s.keys.debounced.test = .opened ∧ s.actsLocally .test ∧
      s.supply.level ≠ .critical ∧ s.panel.lamp.running = true ∧ s.panel.lamp.timedEnd = some 9) ∧
    ((opening .test manned).ready ∧ (opening .test manned).keys.timing.test = some 0 ∧
      (opening .test manned).keys.debounced.test = .closed ∧ (opening .test manned).panel.lamp.running = false) ∧
    ∀ f ∈ [20000, 20001], let s := (opening .test manned).setLamp ⟨true, some f, true⟩
      s.ready ∧ s.keys.timing.test = some 0 ∧ s.keys.debounced.test = .closed ∧ s.panel.lamp.running = true ∧
        s.panel.lamp.keyHold = true ∧ s.panel.lamp.timedEnd = some f ∧
        (s.recognisedAt .test .opened 0).time.clock = 20000 :=
  ⟨⟨⟨rfl, rfl⟩, rfl, rfl, .inr rfl, by decide, rfl⟩, ⟨⟨rfl, rfl⟩, rfl, rfl, .inr rfl, rfl⟩,
    ⟨⟨rfl, rfl⟩, rfl, rfl, .inr rfl, by decide, rfl, rfl⟩, ⟨⟨rfl, rfl⟩, rfl, rfl, rfl⟩,
    fun _ _ => ⟨⟨rfl, rfl⟩, rfl, rfl, rfl, rfl, rfl, rfl⟩⟩

theorem witness_KeyInputsAndReleases :
    ({ manned with held := true } : State).held = true ∧
    (manned.ready ∧ manned.keys.pins.get .ack = .opened ∧ manned.keys.pins.get .ack ≠ .closed) ∧
    ∀ k, (opening k manned).ready ∧ (opening k manned).keys.timing.get k = some 0 ∧
      (opening k manned).keys.debounced.get k = .closed :=
  ⟨rfl, ⟨manned_ready, rfl, by decide⟩, fun k => ⟨⟨rfl, rfl⟩, by cases k <;> rfl, by cases k <;> rfl⟩⟩

theorem witness_ChordPurgesOrphans :
    let s := orphaned.setKeys { orphaned.keys with chord := .timing 4020000 }
    s.ready ∧ s.keys.chord = .timing 4020000 :=
  ⟨⟨rfl, rfl⟩, rfl⟩

/-- A lifetime and a keepalive with one tick to go. -/
theorem witness_TickCountsDown :
    let s := (holding 0 { alarm with lifetime := some ⟨1, 1, 0, false⟩ } manned).setSession .b
      { opened .standby with keepalive := some ⟨1, 1, 0⟩ }
    s.ready ∧ (∀ i q, s.record i = some q → q.expiryDue = false) ∧ ∀ l, s.keepaliveDue l = false :=
  ⟨⟨rfl, rfl⟩, fun i q h => by
    have all : ∀ i : SlotIx,
        ((holding 0 { alarm with lifetime := some ⟨1, 1, 0, false⟩ } manned).record i).all (fun q => !q.expiryDue) = true := by
      decide +kernel
    have x := all i
    rw [show (holding 0 { alarm with lifetime := some ⟨1, 1, 0, false⟩ } manned).record i = some q from h] at x
    simpa using x, fun l => by cases l <;> decide +kernel⟩

theorem witness_ExpireDeliversEvent :
    let q : Record := { alarm with lifetime := some ⟨1, 1, 0, true⟩ }
    let s := holding 0 q manned
    s.ready ∧ s.record 0 = some q ∧ q.state = .new ∧ q.lifetime = some ⟨1, 1, 0, true⟩ :=
  ⟨⟨rfl, rfl⟩, by decide +kernel, rfl, rfl⟩

theorem witness_KeepaliveExpiryDeparts :
    let s := alarmed.setSession .a { opened .primary with keepalive := some ⟨1, 0, 0⟩ }
    s.ready ∧ s.inSession .a = true ∧ (s.session .a).keepalive = some ⟨1, 0, 0⟩ ∧ OwnershipSound s :=
  ⟨⟨rfl, rfl⟩, rfl, rfl, ownershipSound_of_check (by decide +kernel)⟩

/-- The last frame with no commit, and the frame before it with one; the first and the last point on their lines. -/
theorem witness_FrameStartComposesPoints :
    (let s := alarmed.setPanel { alarmed.panel with frame := 63 }
     s.ready ∧ s.map.commit = .idle) ∧
    (let s := committing.setPanel { committing.panel with frame := 62 }
     s.ready ∧ s.panel.frame ≠ 63) ∧
    (0 : Point).val = 24 * (0 : Fin 4).val + (0 : Fin 24).val ∧ (95 : Point).val = 24 * (3 : Fin 4).val + (23 : Fin 24).val :=
  ⟨⟨⟨rfl, rfl⟩, rfl⟩, ⟨⟨rfl, rfl⟩, by decide⟩, by decide, by decide⟩

/-- A record display; an idle display at NORMAL; a dark group, the idle glyph past its only point. -/
theorem witness_FrameStartComposesPoints_display :
    (alarmed.visibleSlot 0 = some 0 ∧ alarmed.record 0 = some alarm) ∧
    (let s := manned.setMap { manned.map with active := manned.map.active.set 23 { points := [95], idle := 1#8 } }
     s.table.claimList 23 = [] ∧ s.supply.level = .normal ∧ (s.map.active.get 23).idle.getLsbD 0 = true ∧
       0 < (s.map.active.get 23).points.length) ∧
    (let s := manned.setMap { manned.map with active := manned.map.active.set 23 { points := [95], idle := 2#8 } }
     s.visibleSlot 23 = none ∧ (∀ k < 8, (s.map.active.get 23).idle.getLsbD k = true → 1 ≤ k) ∧ s.display 23 = .dark) := by
  decide +kernel

theorem witness_CommitCompletionCopiesMap :
    (cycleEnd.ready ∧ cycleEnd.panel.frame = 63 ∧ cycleEnd.map.commit = .pending) ∧
    (committing.ready ∧ committing.panel.frame ≠ 63) ∧ (manned.ready ∧ manned.map.commit = .idle) :=
  ⟨⟨⟨rfl, rfl⟩, rfl, rfl⟩, ⟨⟨rfl, rfl⟩, by decide⟩, manned_ready, rfl⟩

/-- A level that stays at 4.40 V and one that falls just below. -/
theorem witness_SupplySampleMovesLevel :
    manned.ready ∧ (manned.supply.levelAfter 4400).1 = manned.supply.level ∧
      (manned.supply.levelAfter 4399).1 ≠ manned.supply.level :=
  ⟨manned_ready, by decide, by decide⟩

theorem witness_HornPhasesAlternate :
    (manned.ready ∧ manned.horn.state = .off) ∧ (alarmed.ready ∧ alarmed.horn.state ≠ .off) :=
  ⟨⟨manned_ready, rfl⟩, ⟨rfl, rfl⟩, by decide +kernel⟩

theorem witness_DeviceResetAndRelease :
    manned.held = false ∧ ({ closing .ack manned with held := true } : State).held = true :=
  ⟨rfl, rfl⟩

theorem witness_ClaimListInPrecedenceOrder : TableSound alarmed := tableSound_of_check (by decide +kernel)

/-- The alarm's display, and an idle display of the last group. -/
theorem witness_PatternsFollowFrames :
    (alarmed.display 0 = .lit 0x0F#8 .fast ∧ alarmed.visibleSlot 0 = some 0 ∧ alarmed.record 0 = some alarm) ∧
    (let s := manned.setMap { manned.map with active := manned.map.active.set 23 { points := [95], idle := 1#8 } }
     s.display 23 = .lit 1#8 .steady ∧ s.visibleSlot 23 = none) := by
  decide +kernel

/-- A step from the panel with its alarm. -/
def ticking : State := alarmed.setPending [.tick]

theorem witness_StepKeepsRoles : ∃ s t, RolesSound s ∧ step s = .next t ∧ s.pending ≠ [] :=
  ⟨ticking, _, rolesSound_of_check (by decide +kernel), rfl, by decide⟩

theorem witness_StepKeepsTable : ∃ s t, TableSound s ∧ step s = .next t ∧ s.pending ≠ [] :=
  ⟨ticking, _, tableSound_of_check (by decide +kernel), rfl, by decide⟩

theorem witness_StepKeepsRecords : ∃ s t, RecordsSound s ∧ step s = .next t ∧ s.pending ≠ [] :=
  ⟨ticking, _, recordsSound_of_check (by decide +kernel), rfl, by decide⟩

theorem witness_StepKeepsOwnership : ∃ s t, OwnershipSound s ∧ step s = .next t ∧ s.pending ≠ [] :=
  ⟨ticking, _, ownershipSound_of_check (by decide +kernel), rfl, by decide⟩

theorem witness_StepKeepsHorn : ∃ s t, HornSound s ∧ step s = .next t ∧ s.pending ≠ [] :=
  ⟨ticking, _, ⟨by decide +kernel, by decide +kernel⟩, rfl, by decide⟩

theorem witness_StepKeepsPanel : ∃ s t, PanelSound s ∧ step s = .next t ∧ s.pending ≠ [] := by
  refine ⟨ticking, _, ⟨?_, ?_, ?_, ?_, ?_, ?_, ?_⟩, rfl, by decide⟩
  · decide
  · decide
  · decide
  · decide
  · exact fun h => absurd rfl h
  · exact fun _ k => by cases k <;> decide
  · exact fun h => by cases h

theorem witness_StepKeepsMaps : ∃ s t, MapSound s ∧ step s = .next t ∧ s.pending ≠ [] :=
  ⟨ticking, _, ⟨⟨limited_of_check (by decide +kernel), disjoint_of_check (by decide +kernel)⟩,
    limited_of_check (by decide +kernel), fun h => absurd h (by decide)⟩, rfl, by decide⟩

end Sys2Proof.Tests
end

/-! ## What every step keeps

A property of the Indication Table and the two sessions is an invariant of the part as soon as the operations that write
them keep it. `KeptByOperations` lists those operations with what the model knows when it calls them, and
`KeptByOperations.step` carries the property through all 59 commands once for every such property. -/

namespace Sys2Proof.Machine

/-- The operations that write the table or the sessions keep `P`, and the reset state has it. -/
structure KeptByOperations (P : State → Prop) : Prop where
  reset : P State.reset
  frame : ∀ {s t : State}, P s → t.table = s.table → t.sessions.links = s.sessions.links → P t
  session : ∀ {s : State} {l : Link} {x : LinkSession}, x.state.inSession = true →
    x.changed = (s.session l).changed → P s → P (s.setSession l x)
  opened : ∀ {s : State} {l : Link} {x : LinkSession}, s.inSession l = false → x.state.inSession = true →
    x.changed = [] → P s → P (s.setSession l x)
  forgotten : ∀ {s : State} {l : Link}, (s.session l).state = .lost → P s → P (s.setSessionState l .offline)
  silenced : ∀ {s : State} {i : SlotIx} {r : Record} (b : Bool), s.record i = some r → P s →
    P (s.setRecord i { r with silenced := b })
  posted : ∀ {s : State} {l : Link} {b : List Byte} {p : PostPayload} {i : SlotIx}, s.inSession l = true →
    parsePost b = some p → s.table.findKey l p.key = none → reserveFor p.cls ≤ s.table.freeCount →
    s.table.lowestFree = some i → P s → P (s.allocate i (p.record l s.startIn))
  amended : ∀ {s : State} {b : List Byte} {p : AmendPayload} {r : Record}, parseAmend b = some p →
    s.record p.handle.slot = some r → P s → P (s.setRecord p.handle.slot (r.amend p s.startIn))
  claimed : ∀ {s : State} {l : Link} {b : List Byte} {p : ClaimPayload} {r : Record}, s.inSession l = true →
    parseClaim b = some p → s.record p.handle.slot = some r → r.owner = none → s.table.findKey l p.key = none → P s →
    P (s.setRecord p.handle.slot { r with owner := some l, key := p.key })
  moved : ∀ {s : State} {ev : RecordEvent} {i : SlotIx} {r : Record} {st : Annunciation} (c : Cause),
    s.record i = some r → annunciate ev r.latch r.state = .moved st → (ev = .expire → r.expiryDue = true) → P s →
    P (s.moved ev c i r st)
  freed : ∀ {s : State} {i : SlotIx} {r : Record}, s.record i = some r → P s → P (s.retireFree i)
  entombed : ∀ {s : State} {i : SlotIx} {r : Record} {o : Link} (v : Reason), s.record i = some r → r.owner = some o →
    P s → P (s.retireTombstone i r o v)
  collected : ∀ {s : State} {l : Link}, s.inSession l = true → P s → P (s.collected l)
  emptied : ∀ {s : State}, P s → P (((s.setTable s.table.emptied).emptyChanged .a).emptyChanged .b)
  ticked : ∀ {s : State}, P s → P (s.setTable { s.table with slots := mapVector Slot.tick s.table.slots })
  closed : ∀ {s : State} (l : Link) (all : Bool) (into : SessionState), P s →
    P (((s.departRecords l all).1.freeTombstones l).closeSession l into)

namespace KeptByOperations

section
variable {P : State → Prop} (k : KeptByOperations P) {s : State}
include k

/-! ### Notices, sessions and roles -/

theorem notify (l : Link) (f : NoticeSet → NoticeSet) (h : P s) : P (s.notify l f) := by
  unfold State.notify
  split
  · next hin => exact k.session hin rfl h
  · exact h

theorem notifyPrimary (f : NoticeSet → NoticeSet) (h : P s) : P (s.notifyPrimary f) := by
  unfold State.notifyPrimary
  split
  · exact k.notify _ f h
  · exact h

theorem notifyBoth (f : NoticeSet → NoticeSet) (h : P s) : P (s.notifyBoth f) :=
  k.notify .b f (k.notify .a f h)

/-- A link that becomes, or stays, STANDBY or PRIMARY. -/
theorem setSessionState (l : Link) {st : SessionState} (hst : st.inSession = true) (h : P s) :
    P (s.setSessionState l st) :=
  k.session hst rfl h

theorem changePrimary (p : Option Link) (h : P s) : P (s.changePrimary p) :=
  k.frame h rfl rfl

theorem answerExecuting (l : Link) (v : Result) (h : P s) : P (s.answerExecuting l v) :=
  k.frame h (by simp) (by simp)

theorem swapRoles (l : Link) (h : P s) : P (s.swapRoles l) :=
  k.notify _ _ (k.changePrimary _ (k.setSessionState _ rfl (k.setSessionState _ rfl h)))

theorem completeTakeover (h : P s) : P s.completeTakeover := by
  unfold State.completeTakeover
  split
  · exact h
  · exact k.answerExecuting _ _ (k.swapRoles _ (k.frame h rfl rfl))

theorem promote (l : Link) (h : P s) : P (s.promote l) :=
  k.notify _ _ (k.changePrimary _ (k.setSessionState _ rfl h))

theorem commitEnded (h : P s) : P s.commitEnded := by
  unfold State.commitEnded
  split
  · exact h
  · exact k.frame h rfl rfl

theorem restartKeepalive (l : Link) (h : P s) : P (s.restartKeepalive l) := by
  unfold State.restartKeepalive
  split
  · next hin => exact k.session hin rfl h
  · exact h

theorem tickSession (l : Link) (h : P s) : P (s.setSession l (s.session l).tick) := by
  unfold LinkSession.tick
  split
  · next hin => exact k.session hin rfl h
  · simpa using h

theorem redecideHorn (h : P s) : P s.redecideHorn :=
  k.frame h (by simp) (by simp)

/-! ### Records -/

theorem surface (before : State) (g : Group) (h : P s) : P (before.surface s g) := by
  unfold State.surface
  split
  · exact h
  · split
    · exact h
    · split
      · exact h
      · next hr =>
        split
        · exact k.silenced false hr h
        · exact h

theorem surfaceAll (before : State) (h : P s) : P (before.surfaceAll s) :=
  List.foldlRecOn _ _ h fun _ hx _ _ => k.surface before _ hx

theorem silenceSlot (i : SlotIx) (h : P s) : P (s.silenceSlot i) := by
  unfold State.silenceSlot
  split
  · exact h
  · next hr => exact k.silenced true hr h

theorem silenceVisible (h : P s) : P s.silenceVisible :=
  List.foldlRecOn _ _ h fun _ hx i _ => k.silenceSlot i hx

/-- A retirement that frees the slot, where the slot is LIVE; nothing otherwise. -/
theorem retireFree (i : SlotIx) (h : P s) : P (s.retireFree i) := by
  cases hr : s.record i with
  | none => simpa [State.retireFree, hr] using h
  | some r => exact k.freed hr h

theorem retire (c : Cause) (v : Reason) (i : SlotIx) (h : P s) : P (s.retire c v i) := by
  unfold State.retire
  split
  · exact h
  · next r hr =>
    split
    · exact k.retireFree i h
    · next o ho =>
      split
      · exact k.retireFree i h
      · exact k.entombed v hr ho h

/-- One event of R29, an EXPIRE where it is due. -/
theorem deliver {ev : RecordEvent} {i : SlotIx} (c : Cause)
    (hdue : ∀ r, s.record i = some r → ev = .expire → r.expiryDue = true) (h : P s) : P (s.deliver ev c i) := by
  unfold State.deliver
  split
  · exact h
  · next r hr =>
    split
    · exact k.retire _ _ _ h
    · next st hst => exact k.surface _ _ (k.moved c hr hst (hdue r hr) h)
    · exact h
    · exact h

theorem deliverAll {ev : RecordEvent} (hev : ev ≠ .expire) (c : Cause) (is : List SlotIx) (h : P s) :
    P (s.deliverAll ev c is) :=
  List.foldlRecOn _ _ h fun _ hx _ _ => k.deliver c (fun _ _ e => absurd e hev) hx

theorem purgeOrphans (h : P s) : P s.purgeOrphans :=
  List.foldlRecOn _ _ h fun _ hx i _ => k.retireFree i hx

theorem expireSlot (i : SlotIx) (h : P s) : P (s.expireSlot i) := by
  unfold State.expireSlot
  split
  · exact h
  · next r hr =>
    split
    · next hdue => exact k.redecideHorn (k.deliver .part (fun q hq _ => by simp_all) h)
    · exact h

/-! ### Departures -/

theorem primaryDeparts (l : Link) (h : P s) : P (s.primaryDeparts l) := by
  have hidle : P (s.setMap { s.map with commit := .idle }) := k.frame h rfl rfl
  have htold : ∀ b : Prop, [Decidable b] →
      P (if b then ((s.setMap { s.map with commit := .idle }).promote l.other).notify l.other (.putMap .abandoned)
        else (s.setMap { s.map with commit := .idle }).promote l.other) := by
    intro b _
    split
    · exact k.notify _ _ (k.promote _ hidle)
    · exact k.promote _ hidle
  unfold State.primaryDeparts
  dsimp only
  split
  · split
    · exact k.answerExecuting _ _ (k.frame (htold _) rfl rfl)
    · exact htold _
  · exact k.notify _ _ (k.changePrimary _ hidle)

theorem tellAdoption (l : Link) (t : Tally) (h : P s) : P (s.tellAdoption l t) := by
  unfold State.tellAdoption
  split
  · exact k.notify _ _ h
  · exact h

theorem tellOrphans (n : Nat) (h : P s) : P (s.tellOrphans n) := by
  unfold State.tellOrphans
  split
  · exact k.notifyPrimary _ h
  · exact h

theorem depart (l : Link) (all : Bool) (into : SessionState) (peer : PeerNotice) (h : P s) :
    P (s.depart l all into peer).1 := by
  have hcancelled : P (s.cancelRequest l) := k.frame h rfl rfl
  have hclosed := k.closed l all into hcancelled
  unfold State.depart
  refine k.redecideHorn (k.tellOrphans _ (k.tellAdoption _ _ (k.notify _ _ ?_)))
  split
  · exact k.primaryDeparts _ hclosed
  · exact hclosed

theorem expireKeepalive (l : Link) (h : P s) : P (s.expireKeepalive l) := by
  unfold State.expireKeepalive
  split
  · exact k.depart l false .lost .lost h
  · exact h

/-! ### Taking a command -/

theorem takeInside {f : State → State} {t : State} (h : P s) (e : takeInside s f = .next t)
    (hf : ∀ x, P x → P (f x)) : P t := by
  unfold Machine.takeInside at e
  split at e <;> cases e
  · exact h
  · exact hf _ (k.completeTakeover h)

theorem takeOutside {dt : Nat} {f : State → State} {t : State} (h : P s) (e : takeOutside dt s f = .next t)
    (hf : ∀ x, P x → P (f x)) : P t :=
  k.takeInside h e fun _ hx => hf _ (k.frame hx rfl rfl)

/-- A request row keeps what its execution keeps: the answer writes the port alone (R138). -/
theorem takeRequest {l : Link} {row : Request → Bool} {body : List Byte → State → Reply} {t : State}
    (h : P s) (e : takeRequest l s row body = .next t) (hbody : ∀ b x, P x → P (body b x).state) : P t := by
  refine k.takeInside h e fun x hx => ?_
  have hfinish : ∀ (y : Reply) (r : Request), P y.state → P (y.finish l r) := by
    intro y r hy
    unfold Reply.finish
    split
    · exact k.frame hy (by simp) (by simp)
    · exact hy
  unfold State.execute
  split
  · exact hx
  · split
    · exact hfinish _ _ (hbody _ x hx)
    · exact hx

end

/-! ### The checks of R181: a refusal leaves the state alone -/

section
variable {P : State → Prop} {s : State} (h : P s)
include h

theorem needSession {l : Link} {y : Reply} (hy : s.inSession l = true → P y.state) :
    P (needSession s l y).state := by
  unfold Machine.needSession
  split
  · next c => exact hy c
  · exact h

theorem needPrimary {l : Link} {y : Reply} (hy : P y.state) : P (needPrimary s l y).state := by
  unfold Machine.needPrimary
  split
  · exact hy
  · exact h

theorem needPayload {α : Type} {p : Option α} {y : α → Reply} (hy : ∀ x, p = some x → P (y x).state) :
    P (needPayload s p y).state := by
  unfold Machine.needPayload
  split
  · exact hy _ rfl
  · exact h

theorem needRecord {d : Handle} {y : Record → Reply} (hy : ∀ r, s.record d.slot = some r → P (y r).state) :
    P (needRecord s d y).state := by
  unfold Machine.needRecord
  split
  · next e => exact hy _ (Table.resolve_eq_some e).1
  · exact h

theorem needOwner {r : Record} {o : Option Link} {y : Reply} (hy : r.owner = o → P y.state) :
    P (needOwner s r o y).state := by
  unfold Machine.needOwner
  split
  · next c => exact hy c
  · exact h

theorem needIdleCommit {y : Reply} (hy : P y.state) : P (needIdleCommit s y).state := by
  unfold Machine.needIdleCommit
  split
  · exact hy
  · exact h

end

/-! ### The requests -/

section
variable {P : State → Prop} (k : KeptByOperations P) {s : State} (l : Link) (b : List Byte)
include k

theorem attachRequest (h : P s) : P (attachRequest l b s).state := by
  refine needPayload h fun p _ => ?_
  split
  · exact h
  · next hout =>
    have hstate : (p.session s).state.inSession = true := by unfold AttachPayload.session; dsimp only; split <;> rfl
    refine k.notify _ _ ?_
    have hopened := k.opened (by simpa using hout) hstate rfl h
    unfold State.openSession
    dsimp only
    split
    · exact k.changePrimary _ hopened
    · exact hopened

theorem detachRequest (h : P s) : P (detachRequest l b s).state := by
  refine needSession h fun _ => needPayload h fun all _ => ?_
  simpa only [Reply.ok] using k.depart l all .offline .left h

omit k in
theorem pingRequest (h : P s) : P (pingRequest l b s).state :=
  needSession h fun _ => needPayload h fun _ _ => h

theorem setAttentionRequest (h : P s) : P (setAttentionRequest l b s).state :=
  needSession h fun hin => needPayload h fun _ _ => k.session hin rfl h

theorem collectRequest (h : P s) : P (collectRequest l b s).state :=
  needSession h fun hin => needPayload h fun _ _ => k.collected hin h

theorem withdrawPermit (h : P s) : P s.withdrawPermit := by
  unfold State.withdrawPermit
  split
  · exact h
  · next m _ =>
    have htold := k.notify m (.putPermit .withdrawn) (k.frame (t := s.setSessions { s.sessions with permit := none })
      h rfl rfl)
    dsimp only
    split
    · exact k.answerExecuting _ _ (k.frame htold rfl rfl)
    · exact htold

theorem permitRequest (h : P s) : P (permitRequest l b s).state := by
  refine needSession h fun _ => needPrimary h (needPayload h fun _ _ => ?_)
  split
  · split
    · exact k.notify _ _ (k.frame h rfl rfl)
    · exact h
  · exact k.withdrawPermit h

theorem takeoverRequest (h : P s) : P (takeoverRequest l b s).state := by
  refine needSession h fun _ => ?_
  split
  · exact h
  · refine needPayload h fun _ _ => ?_
    split
    · exact h
    · unfold State.takeRole
      split
      · exact k.changePrimary _ (k.setSessionState _ rfl h)
      · split
        · exact k.swapRoles _ h
        · exact k.frame h rfl rfl

theorem yieldRequest (h : P s) : P (yieldRequest l b s).state := by
  refine needSession h fun _ => needPrimary h (needPayload h fun _ _ => needIdleCommit h ?_)
  have hyielded := k.setSessionState l (st := .standby) rfl h
  dsimp only
  split
  · exact k.promote _ hyielded
  · exact k.changePrimary _ hyielded

theorem claimRequest (h : P s) : P (claimRequest l b s).state := by
  refine needSession h fun hin => needPrimary h (needPayload h fun p hp => needRecord h fun r hr =>
    needOwner h fun ho => ?_)
  split
  · exact h
  · next hkey => exact k.claimed hin hp hr ho (by simpa using hkey) h

theorem postRequest (h : P s) : P (postRequest l b s).state := by
  refine needSession h fun hin => needPayload h fun p hp => ?_
  split
  · exact h
  · next hkey =>
    split
    · exact h
    · next hroom =>
      split
      · exact h
      · next hfree => exact k.redecideHorn (k.posted hin hp (by simpa using hkey) (by omega) hfree h)

theorem amendRequest (h : P s) : P (amendRequest l b s).state :=
  needSession h fun _ => needPayload h fun _ hp => needRecord h fun _ hr => needOwner h fun _ =>
    k.redecideHorn (k.surface _ _ (k.amended hp hr h))

theorem clearRequest (h : P s) : P (clearRequest l b s).state :=
  needSession h fun _ => needPayload h fun _ _ => needRecord h fun _ _ => needOwner h fun _ =>
    k.redecideHorn (k.deliver _ (fun _ _ e => nomatch e) h)

theorem reassertRequest (h : P s) : P (reassertRequest l b s).state := by
  refine needSession h fun _ => needPayload h fun _ _ => needRecord h fun _ _ => needOwner h fun _ => ?_
  split
  · exact h
  · exact k.redecideHorn (k.deliver _ (fun _ _ e => nomatch e) h)

theorem withdrawRequest (h : P s) : P (withdrawRequest l b s).state :=
  needSession h fun _ => needPayload h fun _ _ => needRecord h fun _ _ => needOwner h fun _ =>
    k.redecideHorn (k.retireFree _ h)

omit k in
theorem findRequest (h : P s) : P (findRequest l b s).state := by
  refine needSession h fun _ => needPayload h fun _ _ => ?_
  split <;> exact h

omit k in
theorem queryRequest (h : P s) : P (queryRequest l b s).state :=
  needSession h fun _ => needPayload h fun _ _ => needRecord h fun _ _ => h

omit k in
theorem listGroupRequest (h : P s) : P (listGroupRequest l b s).state :=
  needSession h fun _ => needPayload h fun _ _ => h

omit k in
theorem panelStatusRequest (h : P s) : P (panelStatusRequest l b s).state :=
  needSession h fun _ => needPayload h fun _ _ => h

omit k in
theorem readMapRequest (h : P s) : P (readMapRequest l b s).state := by
  refine needSession h fun _ => ?_
  split
  · exact h
  · exact needPayload h fun _ _ => h

theorem targetsRequest {ev : RecordEvent} (hev : ev ≠ .expire) (visible : State → List SlotIx) (h : P s) :
    P (targetsRequest ev visible l b s).state := by
  have hcounted : ∀ is, P (s.deliverCounted ev l is).state := fun is => k.redecideHorn (k.deliverAll hev _ is h)
  refine needSession h fun _ => needPrimary h (needPayload h fun t _ => ?_)
  cases t with
  | handles hs =>
    dsimp only
    split
    · exact hcounted _
    · exact h
  | allVisible => exact hcounted _

theorem silenceRequest (h : P s) : P (silenceRequest l b s).state :=
  needSession h fun _ => needPrimary h (needPayload h fun _ _ => k.redecideHorn (k.silenceVisible h))

theorem retireRequest (h : P s) : P (retireRequest l b s).state :=
  needSession h fun _ => needPrimary h (needPayload h fun _ _ => needRecord h fun _ _ =>
    k.redecideHorn (k.retire _ _ _ h))

theorem stageMapRequest (h : P s) : P (stageMapRequest l b s).state :=
  needSession h fun _ => needPrimary h (needPayload h fun _ _ => needIdleCommit h (k.frame h rfl rfl))

theorem commitMapRequest (h : P s) : P (commitMapRequest l b s).state := by
  refine needSession h fun _ => needPrimary h (needPayload h fun _ _ => needIdleCommit h ?_)
  split
  · exact h
  · exact k.frame h rfl rfl

theorem abortMapRequest (h : P s) : P (abortMapRequest l b s).state := by
  refine needSession h fun _ => needPrimary h (needPayload h fun _ _ => ?_)
  show P s.abortMap
  unfold State.abortMap
  split
  · exact k.commitEnded (k.frame h rfl rfl)
  · exact k.frame h rfl rfl

omit l b in
theorem startLamp (t : Nat) (hold : Bool) (h : P s) : P (s.startLamp t hold) := by
  unfold State.startLamp
  split
  · exact k.frame h rfl rfl
  · exact k.notifyPrimary _ (k.frame h rfl rfl)

omit l b in
theorem endLamp (h : P s) : P s.endLamp := by
  unfold State.endLamp
  split
  · exact k.notifyPrimary _ (k.frame h rfl rfl)
  · exact h

theorem lampTestRequest (h : P s) : P (lampTestRequest l b s).state := by
  refine needSession h fun _ => ?_
  split
  · exact needPayload h fun _ _ => k.startLamp _ _ h
  · exact h

theorem configureRequest (h : P s) : P (configureRequest l b s).state := by
  refine needSession h fun _ => needPrimary h (needPayload h fun p _ => k.redecideHorn ?_)
  have hstored : P (s.storeConfiguration p) := k.frame h rfl rfl
  split
  · exact hstored
  · exact k.surfaceAll _ hstored

theorem restartRequest (h : P s) : P (restartRequest l b s).state :=
  needSession h fun _ => needPrimary h (needPayload h fun _ _ => needIdleCommit h
    (k.redecideHorn (k.frame (k.endLamp (k.notifyBoth _ (k.emptied h))) rfl rfl)))

end

/-! ### Link transactions -/

section
variable {P : State → Prop} (k : KeptByOperations P) {s : State} (l : Link)
include k

theorem takeIntoSlot (r : Request) (h : P s) : P (s.takeIntoSlot l r) := by
  unfold State.takeIntoSlot
  split <;> exact k.frame (k.restartKeepalive l h) rfl rfl

theorem sendFrame (bytes : List Byte) (h : P s) : P (s.sendFrame l bytes) := by
  unfold State.sendFrame
  split
  · exact k.frame h rfl rfl
  · split
    · exact k.frame h rfl rfl
    · exact k.takeIntoSlot l _ h
    · exact k.takeIntoSlot l _ h

theorem resetSession (h : P s) : P (s.resetSession l) := by
  unfold State.resetSession
  split
  · exact h
  · next hlost => exact k.forgotten hlost h
  · exact k.depart l false .offline .reset h
  · exact k.depart l false .offline .reset h

theorem transact (kind : Byte) (bytes : List Byte) (h : P s) : P (s.transact l kind bytes) := by
  have hopen : P (s.openTransaction l bytes) := k.frame h rfl rfl
  unfold State.transact
  dsimp only
  split
  · exact hopen
  · exact k.frame hopen rfl rfl
  · exact k.sendFrame l bytes hopen
  · exact k.frame hopen rfl rfl
  · exact k.resetSession l (k.frame hopen rfl rfl)

end

/-! ### Keys and timers -/

section
variable {P : State → Prop} (k : KeptByOperations P) {s : State}
include k

theorem recognise (key : KeyId) (c : Contact) {act : State → State} (hact : ∀ x, P x → P (act x)) (h : P s) :
    P (s.recognise key c act) := by
  unfold State.recognise
  split
  · exact h
  · split
    · exact h
    · exact hact _ (k.frame h rfl rfl)

theorem reportKey (key : KeyId) (h : P s) : P (s.reportKey key) :=
  k.notifyPrimary _ h

theorem chordPress (key : KeyId) (h : P s) : P (s.chordPress key) := by
  unfold State.chordPress
  split
  · exact k.frame h rfl rfl
  · exact h

theorem ackAction (h : P s) : P s.ackAction := by
  unfold State.ackAction
  split
  · exact k.reportKey _ h
  · split
    · exact k.reportKey _ h
    · exact k.redecideHorn (k.deliverAll (by decide) _ _ h)

theorem silenceAction (h : P s) : P s.silenceAction := by
  unfold State.silenceAction
  split
  · exact k.reportKey _ h
  · exact k.redecideHorn (k.silenceVisible h)

theorem resetAction (h : P s) : P s.resetAction := by
  unfold State.resetAction
  split
  · exact k.reportKey _ h
  · split
    · exact k.reportKey _ h
    · exact k.redecideHorn (k.deliverAll (by decide) _ _ h)

theorem testAction (h : P s) : P s.testAction := by
  unfold State.testAction
  split
  · exact k.reportKey _ h
  · split
    · exact h
    · exact k.startLamp _ _ h

theorem testReleaseAction (h : P s) : P s.testReleaseAction := by
  have hcleared : P (s.setLamp { s.panel.lamp with keyHold := false }) := k.frame h rfl rfl
  unfold State.testReleaseAction
  dsimp only
  split
  · split
    · exact k.endLamp hcleared
    · exact hcleared
  · exact h

theorem fireChord (h : P s) : P s.fireChord := by
  unfold State.fireChord
  split
  · exact k.redecideHorn (k.notifyPrimary _ (k.purgeOrphans (k.frame h rfl rfl)))
  · exact h
  · exact h

theorem takeDueExpiries (h : P s) : P s.takeDueExpiries :=
  k.expireKeepalive _ (k.expireKeepalive _ (List.foldlRecOn _ _ h fun _ hx i _ => k.expireSlot i hx))

theorem countTick (h : P s) : P s.countTick := by
  have haged := k.ticked (k.frame (t := (s.reach (tickMicros * (s.time.ticks + 1))).setTime
    { (s.reach (tickMicros * (s.time.ticks + 1))).time with ticks := s.time.ticks + 1 }) h rfl rfl)
  exact k.tickSession .b (k.tickSession .a haged)

theorem advanceFrame (h : P s) : P s.advanceFrame :=
  k.frame h (by rw [State.advanceFrame_spec]) (by rw [State.advanceFrame_spec])

theorem completeCommit (h : P s) : P s.completeCommit :=
  k.redecideHorn (k.commitEnded (k.notifyPrimary _ (k.surfaceAll _ (k.frame h rfl rfl))))

theorem startFrame (h : P s) : P s.startFrame := by
  refine k.frame (?_ : P (if s.endsCommit then s.advanceFrame.completeCommit else s.advanceFrame)) rfl rfl
  split
  · exact k.completeCommit (k.advanceFrame h)
  · exact k.advanceFrame h

theorem passTimedEnd (h : P s) : P s.passTimedEnd := by
  unfold State.passTimedEnd
  split
  · exact h
  · split
    · split
      · exact k.frame h rfl rfl
      · exact k.endLamp (k.frame h rfl rfl)
    · exact h

theorem endHornPhase (h : P s) : P s.endHornPhase := by
  unfold State.endHornPhase
  split
  · exact h
  · exact k.frame h rfl rfl

theorem levelChanged (before : State) (h : P s) : P (before.levelChanged s) := by
  have hdecided := k.redecideHorn (k.surfaceAll before h)
  refine k.notifyBoth _ ?_
  split
  · exact k.endLamp hdecided
  · exact hdecided

theorem takeSample (mv : Nat) (h : P s) : P (s.takeSample mv) := by
  have hsampled : P (((s.reach (sampleMicros * (s.time.samples + 1))).setTime
      { (s.reach (sampleMicros * (s.time.samples + 1))).time with samples := s.time.samples + 1 }).setSupply
        (s.supply.sample mv)) := k.frame h rfl rfl
  unfold State.takeSample
  dsimp only
  split
  · exact hsampled
  · exact k.levelChanged s hsampled

/-! ### The commands -/

theorem exec {c : Instr} {t : State} (h : P s) (e : exec c s = .next t) : P t := by
  cases c with
  | peek dt l kind bytes =>
    simp only [Machine.exec, execPeek] at e
    refine k.takeOutside h e fun x hx => ?_
    split
    · exact hx
    · exact k.transact l _ bytes hx
  | send dt l bytes =>
    simp only [Machine.exec, execSend] at e
    exact k.takeOutside h e fun _ hx => k.transact l _ bytes hx
  | fetch dt l bytes =>
    simp only [Machine.exec, execFetch] at e
    exact k.takeOutside h e fun _ hx => k.transact l _ bytes hx
  | linkReset dt l bytes =>
    simp only [Machine.exec, execLinkReset] at e
    exact k.takeOutside h e fun _ hx => k.transact l _ bytes hx
  | unknownRequest l => exact k.takeRequest h e fun _ _ hx => hx
  | attach l => exact k.takeRequest h e fun b _ hx => k.attachRequest l b hx
  | detachWithdrawAll l => exact k.takeRequest h e fun b _ hx => k.detachRequest l b hx
  | detachLeave l => exact k.takeRequest h e fun b _ hx => k.detachRequest l b hx
  | ping l => exact k.takeRequest h e fun b _ hx => pingRequest l b hx
  | setAttention l => exact k.takeRequest h e fun b _ hx => k.setAttentionRequest l b hx
  | collect l => exact k.takeRequest h e fun b _ hx => k.collectRequest l b hx
  | permitGrant l => exact k.takeRequest h e fun b _ hx => k.permitRequest l b hx
  | permitWithdraw l => exact k.takeRequest h e fun b _ hx => k.permitRequest l b hx
  | takeover l => exact k.takeRequest h e fun b _ hx => k.takeoverRequest l b hx
  | takeoverComplete =>
    simp only [Machine.exec, execTakeoverComplete] at e
    exact k.takeInside h e fun _ hx => hx
  | yieldRole l => exact k.takeRequest h e fun b _ hx => k.yieldRequest l b hx
  | claimOrphan l => exact k.takeRequest h e fun b _ hx => k.claimRequest l b hx
  | post l => exact k.takeRequest h e fun b _ hx => k.postRequest l b hx
  | amend l => exact k.takeRequest h e fun b _ hx => k.amendRequest l b hx
  | clear l => exact k.takeRequest h e fun b _ hx => k.clearRequest l b hx
  | reassert l => exact k.takeRequest h e fun b _ hx => k.reassertRequest l b hx
  | withdraw l => exact k.takeRequest h e fun b _ hx => k.withdrawRequest l b hx
  | find l => exact k.takeRequest h e fun b _ hx => findRequest l b hx
  | query l => exact k.takeRequest h e fun b _ hx => queryRequest l b hx
  | listGroup l => exact k.takeRequest h e fun b _ hx => listGroupRequest l b hx
  | panelStatus l => exact k.takeRequest h e fun b _ hx => panelStatusRequest l b hx
  | readMap l => exact k.takeRequest h e fun b _ hx => readMapRequest l b hx
  | acknowledgeHandles l => exact k.takeRequest h e fun b _ hx => k.targetsRequest l b (by decide) _ hx
  | acknowledgeAllVisible l => exact k.takeRequest h e fun b _ hx => k.targetsRequest l b (by decide) _ hx
  | remoteResetHandles l => exact k.takeRequest h e fun b _ hx => k.targetsRequest l b (by decide) _ hx
  | remoteResetAllVisible l => exact k.takeRequest h e fun b _ hx => k.targetsRequest l b (by decide) _ hx
  | silence l => exact k.takeRequest h e fun b _ hx => k.silenceRequest l b hx
  | retire l => exact k.takeRequest h e fun b _ hx => k.retireRequest l b hx
  | stageMap l => exact k.takeRequest h e fun b _ hx => k.stageMapRequest l b hx
  | commitMap l => exact k.takeRequest h e fun b _ hx => k.commitMapRequest l b hx
  | abortMap l => exact k.takeRequest h e fun b _ hx => k.abortMapRequest l b hx
  | lampTest l => exact k.takeRequest h e fun b _ hx => k.lampTestRequest l b hx
  | configure l => exact k.takeRequest h e fun b _ hx => k.configureRequest l b hx
  | restart l => exact k.takeRequest h e fun b _ hx => k.restartRequest l b hx
  | ackKeyPress =>
    simp only [Machine.exec, execAckKeyPress] at e
    exact k.takeInside h e fun _ hx => k.recognise _ _ (fun _ hy => k.ackAction (k.chordPress _ hy)) hx
  | silenceKeyPress =>
    simp only [Machine.exec, execSilenceKeyPress] at e
    exact k.takeInside h e fun _ hx => k.recognise _ _ (fun _ hy => k.silenceAction hy) hx
  | resetKeyPress =>
    simp only [Machine.exec, execResetKeyPress] at e
    exact k.takeInside h e fun _ hx => k.recognise _ _ (fun _ hy => k.resetAction (k.chordPress _ hy)) hx
  | testKeyPress =>
    simp only [Machine.exec, execTestKeyPress] at e
    exact k.takeInside h e fun _ hx => k.recognise _ _ (fun _ hy => k.testAction hy) hx
  | testKeyRelease =>
    simp only [Machine.exec, execTestKeyRelease] at e
    exact k.takeInside h e fun _ hx => k.recognise _ _ (fun _ hy => k.testReleaseAction hy) hx
  | ackKeyRelease =>
    simp only [Machine.exec, execAckKeyRelease] at e
    exact k.takeInside h e fun _ hx => k.recognise _ _ (fun _ hy => k.frame hy rfl rfl) hx
  | resetKeyRelease =>
    simp only [Machine.exec, execResetKeyRelease] at e
    exact k.takeInside h e fun _ hx => k.recognise _ _ (fun _ hy => k.frame hy rfl rfl) hx
  | silenceKeyRelease =>
    simp only [Machine.exec, execSilenceKeyRelease] at e
    exact k.takeInside h e fun _ hx => k.recognise _ _ (fun _ hy => hy) hx
  | chordFire =>
    simp only [Machine.exec, execChordFire] at e
    exact k.takeInside h e fun _ hx => k.fireChord hx
  | tick =>
    simp only [Machine.exec, execTick] at e
    exact k.takeInside h e fun _ hx => k.countTick (k.takeDueExpiries hx)
  | expire i =>
    simp only [Machine.exec, execExpire] at e
    exact k.takeInside h e fun _ hx => k.expireSlot i hx
  | keepaliveExpiry l =>
    simp only [Machine.exec, execKeepaliveExpiry] at e
    exact k.takeInside h e fun _ hx => k.expireKeepalive l hx
  | frameStart =>
    simp only [Machine.exec, execFrameStart] at e
    exact k.takeInside h e fun _ hx => k.startFrame hx
  | commitCompletion =>
    simp only [Machine.exec, execCommitCompletion] at e
    refine k.takeInside h e fun x hx => ?_
    split
    · exact k.startFrame hx
    · exact hx
  | lampTestEnd =>
    simp only [Machine.exec, execLampTestEnd] at e
    exact k.takeInside h e fun _ hx => k.passTimedEnd hx
  | supplySample mv =>
    simp only [Machine.exec, execSupplySample] at e
    exact k.takeInside h e fun _ hx => k.takeSample mv hx
  | hornPhaseEnd =>
    simp only [Machine.exec, execHornPhaseEnd] at e
    exact k.takeInside h e fun _ hx => k.endHornPhase hx
  | deviceReset =>
    cases e
    exact k.frame k.reset rfl rfl
  | resetRelease =>
    change execResetRelease s = .next t at e
    unfold execResetRelease at e
    split at e <;> cases e
    · exact k.frame h rfl rfl
    · exact h
  | keyInputChange dt key c =>
    change execKeyInputChange dt key c s = .next t at e
    unfold execKeyInputChange at e
    split at e
    · cases e
      exact k.frame h rfl rfl
    · exact k.takeOutside h e fun _ hx => k.frame hx rfl rfl

/-- A property that every operation keeps is kept by every step. -/
theorem step {t : State} (h : P s) (e : step s = .next t) : P t := by
  unfold Machine.step at e
  split at e
  · cases e
    exact h
  · next c rest _ => exact k.exec (k.frame (t := s.setPending rest) h rfl rfl) e

end

end KeptByOperations

end Sys2Proof.Machine

/-! ## Frames and payloads (R135, R142, R184, R185)

Every field's decoder answers a value exactly of that value's code, so each payload's parser is read off its fields. -/

namespace Sys2Proof.Machine

/-! ### Bytes -/

theorem byteOf_toNat {n : Nat} (h : n < 256) : (byteOf n).toNat = n := by
  simp [byteOf, Nat.mod_eq_of_lt h]

@[simp] theorem byteOf_of_toNat (b : Byte) : byteOf b.toNat = b := by
  simp [byteOf]

/-- A two-byte field is sent as the two bytes it is read from. -/
@[simp] theorem bytes16_word16 (h l : Byte) : bytes16 (word16 h l) = [h, l] := by
  have hhigh : highByte (word16 h l) = h := by
    apply BitVec.eq_of_getLsbD_eq
    intro i hi
    rw [highByte, word16, BitVec.getLsbD_extractLsb', BitVec.getLsbD_append]
    simp [hi]
  have hlow : lowByte (word16 h l) = l := by
    apply BitVec.eq_of_getLsbD_eq
    intro i hi
    rw [lowByte, word16, BitVec.getLsbD_extractLsb', BitVec.getLsbD_append]
    simp [hi]
  rw [bytes16, hhigh, hlow]

theorem bytes16_eq (w : Word16) : bytes16 w = [BitVec.ofNat 8 (w.toNat / 256), BitVec.ofNat 8 w.toNat] := by
  have hhigh : highByte w = BitVec.ofNat 8 (w.toNat / 256) := by
    apply BitVec.eq_of_toNat_eq
    simp [highByte, BitVec.extractLsb'_toNat, Nat.shiftRight_eq_div_pow]
  have hlow : lowByte w = BitVec.ofNat 8 w.toNat := by
    apply BitVec.eq_of_toNat_eq
    simp [lowByte, BitVec.extractLsb'_toNat]
  rw [bytes16, hhigh, hlow]

/-- A two-byte field read from two bytes is the one that is sent as them. -/
theorem word16_eq_iff {h l : Byte} {w : Word16} : word16 h l = w ↔ [h, l] = bytes16 w := by
  refine ⟨fun e => e ▸ (bytes16_word16 h l).symm, fun e => ?_⟩
  simp only [bytes16, List.cons.injEq, and_true] at e
  rw [e.1, e.2, word16_bytes]

/-! ### CRC-8 and frames -/

theorem crcShift_eq (c : Byte) : crcShift c = if c.getLsbD 7 then (c <<< 1) ^^^ 0x07#8 else c <<< 1 := by
  simp [crcShift, BitVec.msb_eq_getLsbD_last]

/-- One more byte is shifted in bit by bit. -/
theorem crc8_append (bs : List Byte) (b : Byte) : crc8 (bs ++ [b]) = crcShift^[8] (crc8 bs ^^^ b) := by
  simp only [crc8, List.foldl_append, List.foldl_cons, List.foldl_nil, crcFeed, List.foldl_const, List.length_range]

/-- The frame check takes exactly the request frames of at most 56 payload bytes, whatever follows them (R135, R184). -/
theorem checkFrame_eq_some {r : Request} {bytes : List Byte} :
    checkFrame bytes = some r ↔ r.payload.length ≤ 56 ∧ ∃ after, bytes = requestFrame r ++ after := by
  constructor
  · intro h
    unfold checkFrame at h
    split at h
    · next code seq len rest =>
      split at h
      · cases h
      · next hlen =>
        split at h
        · cases h
        · next crc hcrc =>
          dsimp only at h
          split at h
          · next hok =>
            cases h
            have hlt : len.toNat < rest.length := (List.getElem?_eq_some_iff.mp hcrc).1
            have hsplit : rest = rest.take len.toNat ++ crc :: rest.drop (len.toNat + 1) := by
              rw [← (List.getElem?_eq_some_iff.mp hcrc).2, ← List.drop_eq_getElem_cons hlt, List.take_append_drop]
            have htake : (rest.take len.toNat).length = len.toNat := List.length_take_of_le hlt.le
            refine ⟨by simpa [htake, maxPayload] using hlen, rest.drop (len.toNat + 1), ?_⟩
            simp only [requestFrame, htake, byteOf_of_toNat, ← hok]
            simpa using hsplit
          · cases h
    · cases h
  · rintro ⟨hlen, after, rfl⟩
    have hn : (byteOf r.payload.length).toNat = r.payload.length := byteOf_toNat (by omega)
    simp [requestFrame, checkFrame, hn, maxPayload, hlen]

/-- A run of bytes shorter than the shortest frame is malformed. -/
theorem checkFrame_short {bytes : List Byte} (h : bytes.length < 4) : checkFrame bytes = none := by
  cases e : checkFrame bytes with
  | none => rfl
  | some r =>
    obtain ⟨-, after, rfl⟩ := checkFrame_eq_some.mp e
    simp [requestFrame] at h
    omega

/-- A length above 56, a frame cut short and a wrong CRC are malformed (R135). -/
theorem checkFrame_malformed {code seq len : Byte} {rest : List Byte}
    (h : 56 < len.toNat ∨ rest.length ≤ len.toNat ∨
      ∃ c, rest[len.toNat]? = some c ∧ c ≠ crc8 ([code, seq, len] ++ rest.take len.toNat)) :
    checkFrame ([code, seq, len] ++ rest) = none := by
  unfold checkFrame
  simp only [List.cons_append, List.nil_append] at h ⊢
  rcases h with h | h | ⟨c, hc, hne⟩
  · rw [if_pos (show maxPayload < len.toNat from h)]
  · simp [List.getElem?_eq_none h]
  · simp [hc, hne]

/-! ### The coded fields -/

theorem classOf_eq_some {b : Byte} {c : Class} : classOf b = some c ↔ b = c.code := by
  cases c <;> grind [classOf, Class.code]

theorem latchOf_eq_some {b : Byte} {x : Latch} : latchOf b = some x ↔ b = x.code := by
  cases x <;> grind [latchOf, Latch.code]

theorem hornOf_eq_some {b : Byte} {x : HornField} : hornOf b = some x ↔ b = x.code := by
  cases x <;> grind [hornOf, HornField.code]

theorem policyOf_eq_some {b : Byte} {x : OrphanPolicy} : policyOf b = some x ↔ b = x.code := by
  cases x <;> grind [policyOf, OrphanPolicy.code]

theorem flagOf_eq_some {b : Byte} {x : Bool} : flagOf b = some x ↔ b = flagByte x := by
  cases x <;> grind [flagOf, flagByte]

theorem glyphOf_eq_some {b x : Byte} : glyphOf b = some x ↔ x ≠ 0#8 ∧ b = x := by
  grind [glyphOf]

theorem keyOf_eq_some {h l : Byte} {x : Word16} : keyOf h l = some x ↔ x ≠ 0#16 ∧ [h, l] = bytes16 x := by
  rw [← word16_eq_iff]
  grind [keyOf]

theorem finOf_eq_some {n : Nat} (hn : n ≤ 256) {b : Byte} {i : Fin n} : finOf n b = some i ↔ b = byteOf i.val := by
  constructor
  · intro h
    unfold finOf at h
    split at h
    · cases h; simp
    · cases h
  · rintro rfl
    exact finOf_byteOf hn i

theorem handleOf_eq_some {i g : Byte} {h : Handle} :
    handleOf i g = some h ↔ i = byteOf h.slot.val ∧ g = h.gen := by
  obtain ⟨slot, gen⟩ := h
  simp [handleOf, Option.map_eq_some_iff, finOf_eq_some]

/-! ### The payloads -/

theorem parseHandle_eq_some {b : List Byte} {h : Handle} :
    parseHandle b = some h ↔ b = [byteOf h.slot.val, h.gen] := by
  unfold parseHandle
  split
  · simp [handleOf_eq_some]
  · next hne => exact iff_of_false (by simp) fun e => hne _ _ e

theorem parseAttach_eq_some {b : List Byte} {p : AttachPayload} :
    parseAttach b = some p ↔ 1 ≤ p.interval ∧ p.interval ≤ 255 ∧
      b = [flagByte p.wishPrimary, byteOf p.interval, flagByte p.failover] := by
  obtain ⟨wish, interval, failover⟩ := p
  unfold parseAttach
  split
  · next w i f =>
    simp only [Option.bind_eq_some_iff, flagOf_eq_some, List.cons.injEq, and_true, Option.ite_none_left_eq_some,
      Option.some.injEq, AttachPayload.mk.injEq, Option.bind_eq_bind]
    constructor
    · rintro ⟨w', rfl, f', rfl, hi, rfl, rfl, rfl⟩
      have hpos : i.toNat ≠ 0 := fun e => hi (BitVec.eq_of_toNat_eq e)
      exact ⟨by omega, by omega, rfl, (byteOf_of_toNat i).symm, rfl⟩
    · rintro ⟨hlow, hhigh, rfl, rfl, rfl⟩
      have hi : (byteOf interval).toNat = interval := byteOf_toNat (by omega)
      refine ⟨wish, rfl, failover, rfl, fun e => ?_, rfl, hi, rfl⟩
      rw [e] at hi
      simp at hi
      omega
  · next hne => exact iff_of_false (by simp) fun e => hne _ _ _ e.2.2

theorem parseDetach_eq_some {b : List Byte} {all : Bool} :
    parseDetach b = some all ↔ b = [if all then 0#8 else 1#8] := by
  unfold parseDetach
  split
  · cases all <;> simp [flagOf_eq_some, flagByte]
  · next hne => exact iff_of_false (by simp) fun e => hne _ e

theorem parsePermit_eq_some {b : List Byte} {grant : Bool} :
    parsePermit b = some grant ↔ b = [if grant then 1#8 else 2#8] := by
  unfold parsePermit
  split
  · cases grant <;> grind
  · next hne => exact iff_of_false (by simp) fun e => hne _ e

theorem parseMask_eq_some {b : List Byte} {m : Word16} :
    parseMask b = some m ↔ m &&& 0xE000#16 = 0#16 ∧ b = bytes16 m := by
  have hmask : ~~~allKinds = 0xE000#16 := by decide
  unfold parseMask
  split
  · next h l =>
    rw [← word16_eq_iff, hmask]
    grind
  · next hne => exact iff_of_false (by simp) fun e => hne _ _ e.2

theorem parseClaim_eq_some {b : List Byte} {p : ClaimPayload} :
    parseClaim b = some p ↔ p.key ≠ 0#16 ∧ b = [byteOf p.handle.slot.val, p.handle.gen] ++ bytes16 p.key := by
  obtain ⟨handle, key⟩ := p
  unfold parseClaim
  split
  · simp only [Option.bind_eq_bind, Option.bind_eq_some_iff, handleOf_eq_some, keyOf_eq_some, Option.some.injEq,
      ClaimPayload.mk.injEq, List.cons_append, List.nil_append, List.cons.injEq]
    grind
  · next hne => exact iff_of_false (by simp) fun e => hne _ _ _ _ e.2

/-- POST, read forward: nothing but the bytes of R185, and none of what R18 refuses. -/
theorem parsePost_eq_some {b : List Byte} {p : PostPayload} :
    parsePost b = some p ↔ p.key ≠ 0#16 ∧ p.glyph ≠ 0#8 ∧ ¬(p.cls = .alarm ∧ p.latch = .none) ∧ p.period < 65536 ∧
      b = bytes16 p.key ++
        [byteOf p.group.val, p.cls.code, byteOf p.priority.val, p.latch.code, p.horn.code, p.policy.code, p.glyph,
          0#8] ++ bytes16 (BitVec.ofNat 16 p.period) := by
  obtain ⟨key, group, cls, priority, latch, horn, policy, glyph, period⟩ := p
  unfold parsePost
  split
  · simp only [Option.bind_eq_bind, Option.bind_eq_some_iff, keyOf_eq_some, classOf_eq_some, latchOf_eq_some,
      hornOf_eq_some, policyOf_eq_some, glyphOf_eq_some, finOf_eq_some (n := 24) (by omega),
      finOf_eq_some (n := 16) (by omega), Option.ite_none_right_eq_some, Option.some.injEq, PostPayload.mk.injEq]
    constructor
    · rintro ⟨_, ⟨hkey, hbytes⟩, _, rfl, _, rfl, _, rfl, _, rfl, _, rfl, _, rfl, _, ⟨hglyph, rfl⟩, ⟨rfl, halarm⟩, rfl, rfl,
        rfl, rfl, rfl, rfl, rfl, rfl, rfl⟩
      refine ⟨hkey, hglyph, halarm, BitVec.isLt _, ?_⟩
      simp [← hbytes, periodOf]
    · rintro ⟨hkey, hglyph, halarm, hperiod, hb⟩
      simp only [bytes16, List.cons_append, List.nil_append, List.cons.injEq, and_true] at hb
      obtain ⟨rfl, rfl, rfl, rfl, rfl, rfl, rfl, rfl, rfl, rfl, rfl, rfl⟩ := hb
      have hback : periodOf (highByte (BitVec.ofNat 16 period)) (lowByte (BitVec.ofNat 16 period)) = period := by
        rw [periodOf, word16_bytes, BitVec.toNat_ofNat]
        omega
      exact ⟨key, ⟨hkey, rfl⟩, group, rfl, cls, rfl, priority, rfl, latch, rfl, horn, rfl, policy, rfl, _,
        ⟨hglyph, rfl⟩, ⟨rfl, halarm⟩, rfl, rfl, rfl, rfl, rfl, rfl, rfl, rfl, hback⟩
  · next hne => exact iff_of_false (by simp) fun e => hne _ _ _ _ _ _ _ _ _ _ _ _ e.2.2.2.2

/-- A field of AMEND is read where its select bit is 1, and carried unread otherwise (R185). -/
theorem selected_eq_some {α : Type} {sel : Bool} {field : Option α} {o : Option α} :
    selected sel field = some o ↔ if sel then ∃ x, o = some x ∧ field = some x else o = none := by
  cases sel <;> cases field <;> simp [selected, eq_comm]

theorem parseAmend_eq_some {b : List Byte} {p : AmendPayload} :
    parseAmend b = some p ↔ ∃ sel pr gl ho po lh ll : Byte,
      b = [byteOf p.handle.slot.val, p.handle.gen, sel, pr, gl, ho, po, lh, ll] ∧
      sel ≠ 0#8 ∧ sel &&& 0xE0#8 = 0#8 ∧
      (if sel.getLsbD 0 then ∃ x, p.priority = some x ∧ pr = byteOf x.val else p.priority = none) ∧
      (if sel.getLsbD 1 then gl ≠ 0#8 ∧ p.glyph = some gl else p.glyph = none) ∧
      (if sel.getLsbD 2 then ∃ x, p.horn = some x ∧ ho = x.code else p.horn = none) ∧
      (if sel.getLsbD 3 then ∃ x, p.policy = some x ∧ po = x.code else p.policy = none) ∧
      (if sel.getLsbD 4 then ∃ x : Word16, p.period = some x.toNat ∧ [lh, ll] = bytes16 x else p.period = none) := by
  obtain ⟨handle, priority, glyph, horn, policy, period⟩ := p
  have hperiod : ∀ {lh ll : Byte}, (∃ x, period = some x ∧ periodOf lh ll = x) ↔
      ∃ x : Word16, period = some x.toNat ∧ [lh, ll] = bytes16 x := by
    intro lh ll
    simp only [← word16_eq_iff, periodOf]
    exact ⟨fun ⟨x, hx, e⟩ => ⟨word16 lh ll, e ▸ hx, rfl⟩, fun ⟨x, hx, e⟩ => ⟨x.toNat, hx, e ▸ rfl⟩⟩
  unfold parseAmend
  split
  · next i g sel pr gl ho po lh ll =>
    simp only [Option.bind_eq_bind, Option.bind_eq_some_iff, handleOf_eq_some, selected_eq_some, glyphOf_eq_some,
      hornOf_eq_some, policyOf_eq_some, finOf_eq_some (n := 16) (by omega), Option.ite_none_left_eq_some,
      Option.some.injEq, AmendPayload.mk.injEq, List.cons.injEq, and_true]
    have hglyph : (∃ x, glyph = some x ∧ x ≠ 0#8 ∧ gl = x) ↔ gl ≠ 0#8 ∧ glyph = some gl :=
      ⟨fun ⟨x, hx, hne, e⟩ => e ▸ ⟨hne, hx⟩, fun ⟨hne, hx⟩ => ⟨gl, hx, hne, rfl⟩⟩
    constructor
    · rintro ⟨_, ⟨rfl, rfl⟩, _, hpr, _, hgl, _, hho, _, hpo, _, hpe, hsel, rfl, rfl, rfl, rfl, rfl, rfl⟩
      rw [hglyph] at hgl
      rw [hperiod] at hpe
      rw [not_or, not_not] at hsel
      exact ⟨sel, pr, gl, ho, po, lh, ll, ⟨rfl, rfl, rfl, rfl, rfl, rfl, rfl, rfl, rfl⟩, hsel.1, hsel.2, hpr, hgl, hho,
        hpo, hpe⟩
    · rintro ⟨_, _, _, _, _, _, _, ⟨rfl, rfl, rfl, rfl, rfl, rfl, rfl, rfl, rfl⟩, hne, hmask, hpr, hgl, hho, hpo, hpe⟩
      rw [← hglyph] at hgl
      rw [← hperiod] at hpe
      exact ⟨handle, ⟨rfl, rfl⟩, priority, hpr, glyph, hgl, horn, hho, policy, hpo, period, hpe,
        not_or.mpr ⟨hne, not_not.mpr hmask⟩, rfl, rfl, rfl, rfl, rfl, rfl⟩
  · next hne => exact iff_of_false (by simp) fun ⟨_, _, _, _, _, _, _, e, _⟩ => hne _ _ _ _ _ _ _ _ _ e

theorem parsePoints_eq_some {b : List Byte} {ps : List Point} :
    parsePoints b = some ps ↔ b = ps.map fun x => byteOf x.val := by
  induction b generalizing ps with
  | nil => cases ps <;> simp [parsePoints]
  | cons x rest ih =>
    cases ps <;> simp [parsePoints, Option.bind_eq_some_iff, finOf_eq_some, ih]

theorem parseStage_eq_some {b : List Byte} {p : StagePayload} :
    parseStage b = some p ↔ p.entry.points.length ≤ 8 ∧ p.entry.points.Nodup ∧
      b = [byteOf p.group.val, p.entry.idle, byteOf p.entry.points.length] ++
        p.entry.points.map fun x => byteOf x.val := by
  obtain ⟨group, points, idle⟩ := p
  unfold parseStage
  split
  · next g i c rest =>
    simp only [Option.bind_eq_bind, Option.bind_eq_some_iff, finOf_eq_some (n := 24) (by omega), parsePoints_eq_some,
      Option.ite_none_right_eq_some, Option.some.injEq, StagePayload.mk.injEq, MapEntry.mk.injEq, List.cons_append,
      List.nil_append, List.cons.injEq]
    constructor
    · rintro ⟨_, rfl, _, rfl, ⟨hle, hlen, hnodup⟩, rfl, rfl, rfl⟩
      exact ⟨by omega, hnodup, rfl, rfl, by rw [hlen, byteOf_of_toNat], rfl⟩
    · rintro ⟨hle, hnodup, rfl, rfl, rfl, rfl⟩
      have hc : (byteOf points.length).toNat = points.length := byteOf_toNat (by omega)
      exact ⟨group, rfl, points, rfl, ⟨by omega, hc.symm, hnodup⟩, rfl, rfl, rfl⟩
  · next hne => exact iff_of_false (by simp) fun e => hne _ _ _ _ e.2.2

/-- The four mode bits of CONFIGURE and no other (R185). -/
theorem keyModes_iff {k : Byte} {m : PerKey KeyMode} :
    (k &&& 0xF0#8 = 0#8 ∧
      ({ ack := modeOf (k.getLsbD 0), silence := modeOf (k.getLsbD 1), reset := modeOf (k.getLsbD 2)
         test := modeOf (k.getLsbD 3) } : PerKey KeyMode) = m) ↔
    k = (if m.ack = .remote then 1#8 else 0#8) ||| (if m.silence = .remote then 2#8 else 0#8) |||
      (if m.reset = .remote then 4#8 else 0#8) ||| (if m.test = .remote then 8#8 else 0#8) := by
  constructor
  · rintro ⟨hk, rfl⟩
    revert k
    decide
  · rintro rfl
    obtain ⟨a, b, c, d⟩ := m
    cases a <;> cases b <;> cases c <;> cases d <;> decide

theorem parseConfigure_eq_some {b : List Byte} {p : ConfigurePayload} :
    parseConfigure b = some p ↔
      b = [flagByte p.hornEnable,
        (if p.modes.ack = .remote then 1#8 else 0#8) ||| (if p.modes.silence = .remote then 2#8 else 0#8) |||
          (if p.modes.reset = .remote then 4#8 else 0#8) ||| (if p.modes.test = .remote then 8#8 else 0#8),
        flagByte p.shedding, flagByte p.chordEnable] := by
  obtain ⟨horn, modes, shedding, chord⟩ := p
  unfold parseConfigure
  split
  · next h k s c =>
    simp only [Option.bind_eq_bind, Option.bind_eq_some_iff, flagOf_eq_some, Option.ite_none_left_eq_some, not_not,
      Option.some.injEq, ConfigurePayload.mk.injEq, List.cons.injEq, and_true, ← keyModes_iff]
    grind
  · next hne => exact iff_of_false (by simp) fun e => hne _ _ _ _ e

theorem parseHandleList_eq_some {b : List Byte} {hs : List Handle} :
    parseHandleList b = some hs ↔ b = hs.flatMap fun h => [byteOf h.slot.val, h.gen] := by
  induction b using parseHandleList.induct generalizing hs with
  | case1 => cases hs <;> simp [parseHandleList]
  | case2 x => cases hs <;> simp [parseHandleList]
  | case3 i g rest ih =>
    cases hs <;> simp [parseHandleList, Option.bind_eq_some_iff, handleOf_eq_some, ih]
    grind

theorem parseTargets_handles {b : List Byte} {hs : List Handle} :
    parseTargets b = some (.handles hs) ↔ 1 ≤ hs.length ∧ hs.length ≤ 16 ∧ (hs.map Handle.slot).Nodup ∧
      b = [1#8, byteOf hs.length] ++ hs.flatMap fun h => [byteOf h.slot.val, h.gen] := by
  unfold parseTargets
  split
  · grind
  · next mode m rest =>
    simp only [Option.bind_eq_bind, Option.bind_eq_some_iff, parseHandleList_eq_some, Option.ite_none_right_eq_some,
      Option.some.injEq, Targets.handles.injEq, List.cons_append, List.nil_append, List.cons.injEq]
    constructor
    · rintro ⟨_, rfl, ⟨rfl, hpos, hle, hlen, hnodup⟩, rfl⟩
      exact ⟨by omega, by omega, hnodup, rfl, by rw [hlen, byteOf_of_toNat], rfl⟩
    · rintro ⟨hpos, hle, hnodup, rfl, rfl, rfl⟩
      have hm : (byteOf hs.length).toNat = hs.length := byteOf_toNat (by omega)
      exact ⟨hs, rfl, ⟨rfl, by omega, by omega, hm.symm, hnodup⟩, rfl⟩
  · simp

theorem parseTargets_allVisible {b : List Byte} : parseTargets b = some .allVisible ↔ b = [2#8] := by
  unfold parseTargets
  split
  · simp
  · simp [Option.bind_eq_some_iff]
  · simp

theorem parseFind_eq_some {b : List Byte} {x : Word16} : parseFind b = some x ↔ x ≠ 0#16 ∧ b = bytes16 x := by
  unfold parseFind
  split
  · exact keyOf_eq_some
  · next hne => exact iff_of_false (by simp) fun e => hne _ _ e.2

theorem parseListGroup_eq_some {b : List Byte} {g : Group} {n : Nat} :
    parseListGroup b = some (g, n) ↔ n < 64 ∧ b = [byteOf g.val, byteOf n] := by
  unfold parseListGroup
  split
  · simp only [Option.bind_eq_bind, Option.bind_eq_some_iff, finOf_eq_some (n := 24) (by omega),
      finOf_eq_some (n := 64) (by omega), Option.some.injEq, Prod.mk.injEq, List.cons.injEq, and_true]
    constructor
    · rintro ⟨_, rfl, i, rfl, rfl, rfl⟩
      exact ⟨i.isLt, rfl, rfl⟩
    · rintro ⟨hn, rfl, rfl⟩
      exact ⟨g, rfl, ⟨n, hn⟩, rfl, rfl, rfl⟩
  · next hne => exact iff_of_false (by simp) fun e => hne _ _ e.2

theorem parseReadMap_eq_some {b : List Byte} {g : Group} {staged : Bool} :
    parseReadMap b = some (g, staged) ↔ b = [byteOf g.val, flagByte staged] := by
  unfold parseReadMap
  split
  · simp [Option.bind_eq_some_iff, finOf_eq_some, flagOf_eq_some]
  · next hne => exact iff_of_false (by simp) fun e => hne _ _ e

theorem parseLampTest_eq_some {b : List Byte} {d : Nat} :
    parseLampTest b = some d ↔ 1 ≤ d ∧ d ≤ 10 ∧ b = [byteOf d] := by
  unfold parseLampTest
  split
  · next x =>
    simp only [Option.ite_none_right_eq_some, Option.some.injEq, List.cons.injEq, and_true]
    constructor
    · rintro ⟨⟨hpos, hle⟩, rfl⟩
      exact ⟨hpos, hle, (byteOf_of_toNat x).symm⟩
    · rintro ⟨hpos, hle, rfl⟩
      rw [byteOf_toNat (by omega)]
      exact ⟨⟨hpos, hle⟩, rfl⟩
  · next hne => exact iff_of_false (by simp) fun e => hne _ e.2.2

end Sys2Proof.Machine

/-! ## Facts about slots, counts and the shared operations

What the operations that the invariants and the requests meet leave of each slot, of the arrival order, of the low-table
flag and of the two sessions, said once for each. -/

namespace Sys2Proof.Machine

/-! ### Changed sets -/

/-- A slot that joins a changed set leaves it in ascending order (R170). -/
theorem joinSlot_ascending {c : List SlotIx} (i : SlotIx) (h : c.Pairwise (· < ·)) :
    (joinSlot i c).Pairwise (· < ·) := by
  unfold joinSlot
  split
  · exact h
  · next hi =>
    have hsorted : (c.orderedInsert (· ≤ ·) i).Pairwise (· ≤ ·) :=
      List.Pairwise.orderedInsert i c (h.imp fun hlt => hlt.le)
    have hnodup : (c.orderedInsert (· ≤ ·) i).Nodup := by
      rw [(List.perm_orderedInsert (· ≤ ·) i c).nodup_iff]
      exact List.nodup_cons.mpr ⟨hi, h.imp fun hlt => hlt.ne⟩
    exact (hsorted.and hnodup).imp fun ⟨hle, hne⟩ => lt_of_le_of_ne hle hne

/-! ### The kinds of a slot -/

theorem Slot.isFree_iff {x : Slot} : x.isFree = true ↔ x.content = .free := by
  unfold Slot.isFree; split <;> simp_all

theorem Slot.isLive_iff {x : Slot} : x.isLive = true ↔ ∃ r, x.content = .live r := by
  unfold Slot.isLive; split <;> simp_all

theorem Slot.isTombstone_iff {x : Slot} : x.isTombstone = true ↔ ∃ t, x.content = .tombstone t := by
  unfold Slot.isTombstone; split <;> simp_all

theorem Slot.isOrphan_iff {x : Slot} : x.isOrphan = true ↔ ∃ r, x.content = .live r ∧ r.owner = none := by
  unfold Slot.isOrphan; split <;> simp_all

/-- A LIVE slot that is surfaced holds its record, but for the silenced flag. -/
theorem surfacedSlot_live {s t : State} {g : Group} {j : SlotIx} {x : Slot} {q : Record}
    (h : (surfacedSlot s t g j x).content = .live q) :
    ∃ r b, x.content = .live r ∧ q = { r with silenced := b } := by
  rcases surfacedSlot_same s t g j x with e | ⟨r, hr, e⟩
  · exact ⟨q, q.silenced, e ▸ h, rfl⟩
  · rw [e] at h
    exact ⟨r, false, hr, (Content.live.inj h).symm⟩

/-! ### Counts over the slots -/

/-- The FREE slots of a table. -/
def Table.freeSlots (t : Table) : Finset SlotIx := Finset.univ.filter fun i => (t.slot i).isFree = true

/-- A count over the slots counts slot numbers. -/
theorem Table.countP_slots (t : Table) (p : Slot → Bool) :
    t.slots.toList.countP p = ((List.finRange 64).filter fun i => p (t.slot i)).length := by
  have hslots : t.slots.toList = (List.finRange 64).map t.slot := by
    apply List.ext_getElem
    · simp
    · intro n _ _
      simp [Table.slot, Vector.get_eq_getElem]
  rw [hslots, List.countP_map, List.countP_eq_length_filter]
  rfl

/-- The number of slot numbers that satisfy a test, as a list's length and as a set's size. -/
theorem card_slots (p : SlotIx → Bool) :
    (Finset.univ.filter fun i => p i = true).card = ((List.finRange 64).filter p).length := by
  rw [← List.toFinset_card_of_nodup ((List.nodup_finRange 64).filter p)]
  congr 1
  ext i
  simp

theorem Table.freeCount_eq (t : Table) : t.freeCount = t.freeSlots.card :=
  (t.countP_slots Slot.isFree).trans (card_slots _).symm

theorem Table.mem_freeSlots {t : Table} {i : SlotIx} : i ∈ t.freeSlots ↔ (t.slot i).isFree = true := by
  simp [Table.freeSlots]

/-- Where no FREE slot is lost the free count does not fall. -/
theorem Table.freeCount_mono {t u : Table} (h : ∀ i, (t.slot i).isFree = true → (u.slot i).isFree = true) :
    t.freeCount ≤ u.freeCount := by
  rw [t.freeCount_eq, u.freeCount_eq]
  exact Finset.card_le_card fun i hi => mem_freeSlots.mpr (h i (mem_freeSlots.mp hi))

/-- The allocation of one FREE slot takes one off the free count. -/
theorem Table.freeCount_allocated {t u : Table} {i : SlotIx} (hi : (t.slot i).isFree = true)
    (h : ∀ j, (u.slot j).isFree = if j = i then false else (t.slot j).isFree) : u.freeCount + 1 = t.freeCount := by
  have herase : u.freeSlots = t.freeSlots.erase i := by
    ext j
    rw [Finset.mem_erase, mem_freeSlots, mem_freeSlots, h j]
    split <;> simp [*]
  rw [u.freeCount_eq, t.freeCount_eq, herase]
  exact Finset.card_erase_add_one (mem_freeSlots.mpr hi)

/-- Slots that are not FREE are at most what the free count leaves of 64. -/
theorem Table.card_le_of_not_free {t : Table} (p : SlotIx → Bool) (h : ∀ i, p i = true → (t.slot i).isFree = false) :
    ((List.finRange 64).filter p).length + t.freeCount ≤ 64 := by
  have hdisjoint : Disjoint (Finset.univ.filter fun i => p i = true) t.freeSlots := by
    rw [Finset.disjoint_left]
    intro i hp hf
    have hnot := h i (Finset.mem_filter.mp hp).2
    rw [mem_freeSlots.mp hf] at hnot
    cases hnot
  rw [← card_slots, t.freeCount_eq, ← Finset.card_union_of_disjoint hdisjoint]
  exact (Finset.card_le_univ _).trans (by simp)

/-! ### Keys -/

/-- No LIVE record of a link has a key (R4, R176). -/
theorem Table.findKey_eq_none {t : Table} {l : Link} {key : Word16} :
    t.findKey l key = none ↔ ∀ j q, t.record j = some q → q.owner = some l → q.key ≠ key := by
  unfold Table.findKey allSlots
  rw [List.find?_eq_none]
  constructor
  · intro h j q hq ho hk
    have := h j (List.mem_finRange j)
    simp [hq, ho, hk] at this
  · intro h j _
    cases hq : t.record j with
    | none => simp
    | some q => simpa using h j q hq

/-- The slot that a POST takes is FREE. -/
theorem Table.lowestFree_isFree {t : Table} {i : SlotIx} (h : t.lowestFree = some i) : (t.slot i).isFree = true := by
  unfold Table.lowestFree at h
  exact List.find?_some (p := fun j => (t.slot j).isFree) h

/-! ### The allocation of a slot (R2, R11, R13, R19) -/

/-- An allocation: the record in the slot at its next generation, the newest place in the arrival order, the low-table flag
set at the passage from 5 FREE slots to 4, with TABLE to every link in session, and the record's group re-decided. -/
theorem State.allocate_spec {s : State} {i : SlotIx} (r : Record) (hfree : (s.slot i).isFree = true) :
    (∀ j, (s.allocate i r).slot j =
      surfacedSlot s (s.allocate i r) r.group j
        (if j = i then { gen := nextGen (s.slot i).gen, content := .live r } else s.slot j)) ∧
    (s.allocate i r).table.arrival = s.table.arrival ++ [i] ∧
    (s.allocate i r).table.freeCount + 1 = s.table.freeCount ∧
    ((s.allocate i r).table.low = true ↔ s.table.low = true ∨ s.table.freeCount = 5) ∧
    (∀ m, (s.allocate i r).session m =
      if (s.table.freeCount = 5 ∧ s.table.low = false) ∧ s.inSession m = true then
        { s.session m with notices := { (s.session m).notices with table := true } }
      else s.session m) ∧
    s.sameRoles (s.allocate i r) := by
  set w := (s.setSlot i { gen := nextGen (s.slot i).gen, content := .live r }).setArrival (s.table.arrival ++ [i])
  set u := s.surface w r.group with hu
  have hw : ∀ j, w.slot j = if j = i then { gen := nextGen (s.slot i).gen, content := .live r } else s.slot j :=
    fun j => s.slot_setSlot i j _
  have huSlot : ∀ j, u.slot j = surfacedSlot s u r.group j (w.slot j) := by
    intro j
    rw [hu, State.surface_slot, surfacedSlot_congr ((s.surface_view w r.group).visibleSlot _)]
  have huSessions : u.sessions = s.sessions := s.surface_sessions w r.group
  have huLow : u.table.low = s.table.low := s.surface_low w r.group
  have hcount : u.table.freeCount + 1 = s.table.freeCount := by
    refine Table.freeCount_allocated (i := i) hfree fun j => ?_
    have hj := huSlot j
    change u.table.slot j = _ at hj
    rw [hj, (surfacedSlot_kind ..).2.1, hw j]
    split
    · rfl
    · rfl
  have he : s.allocate i r = u.examineAllocation s.table.freeCount := rfl
  by_cases hc : s.table.freeCount = 5 ∧ s.table.low = false
  · have hx := (u.examineAllocation_spec s.table.freeCount).1 ⟨hc.1, by omega, by rw [huLow]; exact hc.2⟩
    rw [he, hx]
    have hview : SameView u ((u.setTable { u.table with low := true }).notifyBoth .putTable) :=
      ⟨by simp, fun j => by rw [State.record_congr (s := u) (by simp)], by simp, by simp, by simp⟩
    refine ⟨fun j => ?_, ?_, ?_, ?_, fun m => ?_, ?_⟩
    · rw [State.slot_congr (s := u) (by simp), huSlot, hw, surfacedSlot_congr (hview.visibleSlot _)]
    · simp [hu, w]
    · rw [← hcount]
      simp [Table.freeCount]
    · simp [hc.1]
    · rw [State.notifyBoth_session, State.inSession_congr (s := s) (by simpa using huSessions),
        State.session_congr (s := s) (by simpa using huSessions)]
      simp only [hc, and_self, true_and]
      rfl
    · have hroles := fun (x : State) (l : Link) => x.notify_roles l .putTable
      simp [State.sameRoles, State.notifyBoth, hroles, huSessions]
  · have hx := (u.examineAllocation_spec s.table.freeCount).2 fun h => hc ⟨h.1, huLow ▸ h.2.2⟩
    rw [he, hx]
    refine ⟨fun j => ?_, ?_, hcount, ?_, fun m => ?_, ?_⟩
    · rw [huSlot, hw]
    · simp [hu, w]
    · rw [huLow]
      refine ⟨.inl, fun h => h.elim id fun h5 => ?_⟩
      by_contra hlow
      exact hc ⟨h5, by simpa using hlow⟩
    · rw [if_neg fun h => hc h.1, State.session_congr huSessions]
    · simp [State.sameRoles, huSessions]

/-! ### AMEND (R21, R22) -/

/-- The selected fields of an AMEND, and the silenced flag that a change from QUIET to SOUND clears. -/
theorem Record.amend_eq (r : Record) (p : AmendPayload) (startIn : Nat) :
    r.amend p startIn =
      { r with
        priority := p.priority.getD r.priority
        glyph := p.glyph.getD r.glyph
        horn := p.horn.getD r.horn
        policy := p.policy.getD r.policy
        lifetime := (p.period.map (lifetimeOf · startIn)).getD r.lifetime
        silenced :=
          if r.state.unacknowledged = true ∧ r.horn = .quiet ∧ p.horn = some .sound then false else r.silenced } := by
  unfold Record.amend Record.amendHorn
  cases p.horn with
  | none => cases p.period <;> simp
  | some v => cases p.period <;> by_cases hs : r.state.unacknowledged = true ∧ r.horn = .quiet ∧ v = .sound <;> simp [hs]

/-! ### Tombstones freed (R17) -/

/-- The tombstones among reported slots freed one after the other. -/
theorem State.freeReportedAll_spec (is : List SlotIx) (s : State) :
    (∀ j, (is.foldl State.freeReported s).slot j =
      if j ∈ is ∧ (s.slot j).isTombstone = true then (s.slot j).freed else s.slot j) ∧
    (is.foldl State.freeReported s).table.arrival = s.table.arrival ∧
    (is.foldl State.freeReported s).table.low = s.table.low ∧
    (is.foldl State.freeReported s).sessions = s.sessions := by
  induction is generalizing s with
  | nil => simp
  | cons i is ih =>
    have hone : (∀ j, (s.freeReported i).slot j =
          if j = i ∧ (s.slot j).isTombstone = true then (s.slot j).freed else s.slot j) ∧
        (s.freeReported i).table.arrival = s.table.arrival ∧ (s.freeReported i).table.low = s.table.low ∧
        (s.freeReported i).sessions = s.sessions := by
      unfold State.freeReported
      split
      · next ht =>
        refine ⟨fun j => ?_, by simp, by simp, by simp⟩
        rw [State.slot_setContent]
        by_cases hj : j = i
        · subst hj; simp [ht, Slot.freed]
        · simp [hj]
      · next ht =>
        refine ⟨fun j => ?_, rfl, rfl, rfl⟩
        rw [if_neg]
        rintro ⟨rfl, h⟩
        exact ht h
    obtain ⟨hslot, harr, hlow, hses⟩ := ih (s.freeReported i)
    rw [List.foldl_cons, hses, harr, hlow]
    refine ⟨fun j => ?_, hone.2.1, hone.2.2.1, hone.2.2.2⟩
    have hfreed : ((s.slot j).freed).isTombstone = false := rfl
    rw [hslot j, hone.1 j]
    by_cases ht : (s.slot j).isTombstone = true
    · by_cases hj : j = i
      · simp only [hj, true_and] at ht hfreed ⊢
        simp [ht, hfreed]
      · simp [hj]
    · simp [ht]

theorem State.freeReportedAll_frame (is : List SlotIx) (s : State) :
    (is.foldl State.freeReported s).held = s.held ∧ (is.foldl State.freeReported s).time = s.time ∧
    (is.foldl State.freeReported s).ports = s.ports ∧ (is.foldl State.freeReported s).map = s.map ∧
    (is.foldl State.freeReported s).panel = s.panel ∧ (is.foldl State.freeReported s).keys = s.keys ∧
    (is.foldl State.freeReported s).horn = s.horn ∧ (is.foldl State.freeReported s).supply = s.supply ∧
    (is.foldl State.freeReported s).pending = s.pending := by
  refine ⟨?_, ?_, ?_, ?_, ?_, ?_, ?_, ?_, ?_⟩ <;>
    exact foldl_keeps _ _ (fun s i => by unfold State.freeReported; split <;> simp) _ s

/-- The table that a COLLECT leaves, and the Session Unit (R17, R173, R174). -/
theorem State.collected_spec (s : State) (l : Link) :
    (∀ i, (s.collected l).slot i =
      if i ∈ (s.session l).changed.take 8 ∧ (s.slot i).isTombstone = true then (s.slot i).freed else s.slot i) ∧
    (s.collected l).table.arrival = s.table.arrival ∧
    (s.collected l).table.low = lowAfterFreeing s (s.collected l) ∧
    (s.collected l).sessions =
      { s.sessions with
        links := s.sessions.links.set l
          { s.session l with notices := .none, changed := (s.session l).changed.drop 8 } } := by
  set drained := s.setSession l { s.session l with notices := .none, changed := (s.session l).changed.drop 8 }
  obtain ⟨hslot, harr, hlow, hses⟩ := State.freeReportedAll_spec ((s.session l).changed.take 8) drained
  set reported := ((s.session l).changed.take 8).foldl State.freeReported drained
  obtain ⟨htable, hsessions⟩ := reported.examineFreeing_spec s.table.freeCount
  have he : s.collected l = reported.examineFreeing s.table.freeCount := rfl
  rw [he]
  refine ⟨fun i => ?_, ?_, ?_, ?_⟩
  · rw [State.slot_congr (s := reported) (by rw [htable]), hslot i]
    rfl
  · rw [htable]
    exact harr
  · unfold lowAfterFreeing
    rw [htable, hlow]
    rfl
  · rw [hsessions, hses]
    rfl

/-- Every tombstone of a link freed, and nothing else but the low-table flag (R17, R154 stage 3). -/
theorem State.freeTombstones_spec (s : State) (l : Link) :
    (∀ i, (s.freeTombstones l).slot i = (s.slot i).dropTombstoneOf l) ∧
    (s.freeTombstones l).table.arrival = s.table.arrival ∧
    (s.freeTombstones l).table.low = lowAfterFreeing s (s.freeTombstones l) := by
  obtain ⟨htable, -⟩ := State.examineFreeing_spec
    (s.setTable { s.table with slots := mapVector (Slot.dropTombstoneOf l) s.table.slots }) s.table.freeCount
  have he : (s.freeTombstones l).table = _ := htable
  refine ⟨fun i => ?_, by rw [he]; rfl, ?_⟩
  · rw [State.slot_congr (t := s.freeTombstones l)
      (s := s.setTable { s.table with slots := mapVector (Slot.dropTombstoneOf l) s.table.slots }) (by rw [he])]
    exact get_mapVector _ _ i
  · unfold lowAfterFreeing
    rw [he]
    rfl

/-- What freeing a link's tombstones can make of a slot. -/
theorem Slot.dropTombstoneOf_cases (l : Link) (x : Slot) :
    (∃ t, x.content = .tombstone t ∧ t.owner = l ∧ x.dropTombstoneOf l = x.freed) ∨
      (x.dropTombstoneOf l = x ∧ ∀ t, x.content = .tombstone t → t.owner ≠ l) := by
  unfold Slot.dropTombstoneOf
  split
  · next t ht =>
    split
    · next ho => exact .inl ⟨t, ht, ho, rfl⟩
    · next ho => exact .inr ⟨rfl, fun u hu => by rw [ht] at hu; cases hu; exact ho⟩
  · next hne => exact .inr ⟨rfl, fun t ht => absurd ht (hne t)⟩

/-! ### Departures: what becomes of one record (R153, R155, R156) -/

/-- The record in a slot at the departure of `l`: another's is left alone, and one of `l` is freed, an orphan, or the other
link's, which is in session and holds no LIVE record under the key. -/
theorem departSlot_cases (l : Link) (all : Bool) (acc : State × Tally) (i : SlotIx) :
    ((departSlot l all acc i).1 = acc.1 ∧ ∀ r, acc.1.record i = some r → r.owner ≠ some l) ∨
    ∃ r, acc.1.record i = some r ∧ r.owner = some l ∧
      ((departSlot l all acc i).1 = acc.1.retireFree i ∨ (departSlot l all acc i).1 = acc.1.setOwner i r none ∨
        (acc.1.inSession l.other = true ∧ acc.1.table.findKey l.other r.key = none ∧
          (departSlot l all acc i).1 = (acc.1.setOwner i r (some l.other)).joinChanged l.other i)) := by
  unfold departSlot
  cases hr : acc.1.record i with
  | none => exact .inl ⟨rfl, fun r h => by cases h⟩
  | some r =>
    by_cases ho : r.owner = some l
    · refine .inr ⟨r, rfl, ho, ?_⟩
      dsimp only
      rw [if_pos ho]
      split
      · exact .inl rfl
      · split
        · exact .inl rfl
        · exact .inr (.inl rfl)
        · unfold State.adopt
          split
          · next hin =>
            split
            · exact .inr (.inl rfl)
            · next hkey => exact .inr (.inr ⟨hin, by simpa using hkey, rfl⟩)
          · exact .inr (.inl rfl)
    · refine .inl ⟨by simp [ho], fun q hq => ?_⟩
      cases hq
      exact ho

end Sys2Proof.Machine

/-! ## The table's bookkeeping is kept (R2, R9, R12, R13)

Every event but a POST only ages slots: none leaves FREE, none takes a new generation, and none comes to hold a record that
is no ALARM. So the bookkeeping stands as soon as the arrival order lists the LIVE slots and the low-table flag follows the
free count. A POST is the one allocation, and R12's reserve is what it is held to. -/

namespace Sys2Proof.Machine

/-- What an event other than an allocation can make of a slot, as far as the table's bookkeeping goes. -/
structure Slot.Ages (x y : Slot) : Prop where
  gen : y.gen = x.gen
  free : x.isFree = true → y.isFree = true
  nonAlarm : ∀ q, y.content = .live q → q.cls ≠ .alarm → ∃ r, x.content = .live r ∧ r.cls ≠ .alarm

theorem Slot.Ages.refl (x : Slot) : x.Ages x := ⟨rfl, id, fun q hq hc => ⟨q, hq, hc⟩⟩

theorem Slot.Ages.freed (x : Slot) : x.Ages x.freed := ⟨rfl, fun _ => rfl, fun _ hq => by cases hq⟩

/-- A record is replaced by one of its class. -/
theorem Slot.Ages.record {x : Slot} {r q : Record} (hx : x.content = .live r) (hc : q.cls = r.cls) :
    x.Ages { x with content := .live q } := by
  refine ⟨rfl, fun h => ?_, fun p hp hne => ?_⟩
  · rw [Slot.isFree_iff.mp h] at hx
    cases hx
  · cases hp
    exact ⟨r, hx, hc ▸ hne⟩

/-- A record is replaced by a tombstone. -/
theorem Slot.Ages.entombed {x : Slot} {r : Record} (hx : x.content = .live r) (e : Tombstone) :
    x.Ages { x with content := .tombstone e } := by
  refine ⟨rfl, fun h => ?_, fun p hp _ => by cases hp⟩
  rw [Slot.isFree_iff.mp h] at hx
  cases hx

theorem Slot.Ages.surfaced {x y : Slot} (h : x.Ages y) (s t : State) (g : Group) (j : SlotIx) :
    x.Ages (surfacedSlot s t g j y) := by
  obtain ⟨hgen, hfree, -⟩ := surfacedSlot_kind s t g j y
  refine ⟨hgen.trans h.gen, fun hx => hfree.trans (h.free hx), fun q hq hc => ?_⟩
  obtain ⟨r, b, hr, rfl⟩ := surfacedSlot_live hq
  exact h.nonAlarm r hr hc

theorem Slot.Ages.of_eq {x y : Slot} (h : y = x) : x.Ages y := h ▸ .refl x

theorem Slot.Ages.ticked (x : Slot) : x.Ages x.tick ∧ x.tick.isLive = x.isLive ∧ x.tick.isFree = x.isFree := by
  unfold Slot.tick
  split
  · next r hr =>
    have hcls : r.tick.cls = r.cls := by unfold Record.tick; split <;> rfl
    exact ⟨.record hr hcls, by simp [Slot.isLive, hr], by simp [Slot.isFree, hr]⟩
  · exact ⟨.refl x, rfl, rfl⟩

/-- The bookkeeping after slots have aged: what is left to see is the arrival order and the low-table flag. -/
theorem TableSound.aged {s t : State} (h : TableSound s) (hslot : ∀ j, (s.slot j).Ages (t.slot j))
    (hnodup : t.table.arrival.Nodup) (hlive : ∀ j, j ∈ t.table.arrival ↔ (t.slot j).isLive = true)
    (hlow : t.table.low = lowAfterFreeing s t) : TableSound t := by
  refine ⟨hnodup, hlive, fun i hi => ?_, ?_, ?_⟩
  · rw [(hslot i).gen]
    refine h.gen i ?_
    by_contra hfree
    rw [(hslot i).free (by simpa using hfree)] at hi
    cases hi
  · have hmono : s.table.freeCount ≤ t.table.freeCount := Table.freeCount_mono fun i => (hslot i).free
    rw [hlow, lowAfterFreeing]
    simp only [Bool.and_eq_true, Bool.not_eq_true', Bool.and_eq_false_iff, decide_eq_false_iff_not, h.low]
    omega
  · refine le_trans ?_ h.reserve
    have hsub : (fun i => (t.record i).any fun r => r.cls != .alarm) ≤
        fun i => (s.record i).any fun r => r.cls != .alarm := by
      intro i hi
      obtain ⟨q, hq, hc⟩ := (Option.any_eq_true _ _).mp hi
      obtain ⟨r, hr, hcr⟩ := (hslot i).nonAlarm q (State.record_eq_some.mp hq) (by simpa using hc)
      exact (Option.any_eq_true _ _).mpr ⟨r, State.record_eq_some.mpr hr, by simpa using hcr⟩
    exact (List.monotone_filter_right allSlots hsub).length_le

/-- The bookkeeping after slots have aged in their kind: the arrival order may only be rearranged, and the low-table flag
stands. -/
theorem TableSound.aged_in_kind {s t : State} (h : TableSound s) (hslot : ∀ j, (s.slot j).Ages (t.slot j))
    (hkind : ∀ j, (t.slot j).isLive = (s.slot j).isLive ∧ (t.slot j).isFree = (s.slot j).isFree)
    (harr : t.table.arrival.Perm s.table.arrival) (hlow : t.table.low = s.table.low) : TableSound t := by
  refine h.aged hslot (harr.nodup_iff.mpr h.nodup) (fun j => ?_) ?_
  · rw [harr.mem_iff, (hkind j).1]
    exact h.live j
  · rw [hlow, lowAfterFreeing_of_count (State.freeCount_of_kind fun j => (hkind j).2)]

theorem TableSound.of_table {s t : State} (h : TableSound s) (e : t.table = s.table) : TableSound t := by
  have hslot : ∀ j, t.slot j = s.slot j := State.slot_congr (by rw [e])
  exact h.aged_in_kind (fun j => .of_eq (hslot j)) (fun j => by rw [hslot j]; exact ⟨rfl, rfl⟩) (by rw [e]) (by rw [e])

/-- A record replaced by one of its class leaves the bookkeeping alone. -/
theorem TableSound.setRecord {s : State} (h : TableSound s) {i : SlotIx} {r q : Record} (hr : s.record i = some r)
    (hc : q.cls = r.cls) : TableSound (s.setRecord i q) := by
  have hx := State.record_eq_some.mp hr
  refine h.aged_in_kind (fun j => ?_) (fun j => ?_) (by simp [State.setRecord]) (by simp [State.setRecord]) <;>
    rw [State.slot_setRecord] <;> split
  · next hj => subst hj; exact .record hx hc
  · exact .refl _
  · next hj => subst hj; simp [Slot.isLive, Slot.isFree, hx]
  · exact ⟨rfl, rfl⟩

/-- A retirement out of a LIVE slot: freed or left as a tombstone, and out of the arrival order. -/
theorem TableSound.retired {s t : State} (h : TableSound s) {i : SlotIx} {y : Slot} {g : Group}
    (hslot : ∀ j, t.slot j = surfacedSlot s t g j (if j = i then y else s.slot j)) (hy : (s.slot i).Ages y)
    (hdead : y.isLive = false) (harr : t.table.arrival = s.table.arrival.filter (· ≠ i))
    (hlow : t.table.low = lowAfterFreeing s t) : TableSound t := by
  refine h.aged (fun j => ?_) (harr ▸ h.nodup.filter _) (fun j => ?_) hlow
  · rw [hslot j]
    refine Slot.Ages.surfaced ?_ ..
    split
    · next hj => exact hj ▸ hy
    · exact .refl _
  · rw [harr, List.mem_filter, h.live j, hslot j, (surfacedSlot_kind ..).2.2.1]
    by_cases hj : j = i
    · simp [hj, hdead]
    · simp [hj]

/-- Freed tombstones leave the arrival order alone. -/
theorem TableSound.tombstones_freed {s t : State} (h : TableSound s)
    (hslot : ∀ j, t.slot j = s.slot j ∨ ((s.slot j).isTombstone = true ∧ t.slot j = (s.slot j).freed))
    (harr : t.table.arrival = s.table.arrival) (hlow : t.table.low = lowAfterFreeing s t) : TableSound t := by
  refine h.aged (fun j => ?_) (harr ▸ h.nodup) (fun j => ?_) hlow
  · rcases hslot j with e | ⟨-, e⟩
    · exact .of_eq e
    · exact e ▸ .freed _
  · rw [harr, h.live j]
    rcases hslot j with e | ⟨ht, e⟩
    · rw [e]
    · obtain ⟨x, hx⟩ := Slot.isTombstone_iff.mp ht
      simp [e, Slot.freed, Slot.isLive, hx]

/-- A slot takes a generation that is not 0 at its allocation (R2). -/
theorem nextGen_ne_zero (g : Byte) : nextGen g ≠ 0#8 := by
  unfold nextGen
  split
  · decide
  · intro h
    bv_omega

/-- A POST: the slot joins the arrival order, the flag follows the passage from 5 FREE slots to 4, and a record that is no
ALARM leaves the four slots of the reserve (R12, R13). -/
theorem TableSound.posted {s : State} (h : TableSound s) {i : SlotIx} {r : Record} (hfree : (s.slot i).isFree = true)
    (hroom : reserveFor r.cls ≤ s.table.freeCount) : TableSound (s.allocate i r) := by
  obtain ⟨hslot, harr, hcount, hlow, -, -⟩ := State.allocate_spec r hfree
  have hnew : i ∉ s.table.arrival := by
    rw [h.live i]
    simp [Slot.isLive, Slot.isFree_iff.mp hfree]
  have hother : ∀ j, j ≠ i → (s.slot j).Ages ((s.allocate i r).slot j) := by
    intro j hj
    rw [hslot j, if_neg hj]
    exact (Slot.Ages.refl _).surfaced ..
  refine ⟨?_, fun j => ?_, fun j hj => ?_, ?_, ?_⟩
  · rw [harr]
    exact (List.perm_append_singleton i _).nodup_iff.mpr (List.nodup_cons.mpr ⟨hnew, h.nodup⟩)
  · rw [harr, List.mem_append, List.mem_singleton, hslot j, (surfacedSlot_kind ..).2.2.1]
    by_cases hj : j = i
    · simp [hj, Slot.isLive]
    · simpa [hj] using h.live j
  · by_cases e : j = i
    · rw [hslot j, (surfacedSlot_kind ..).1, if_pos e]
      exact nextGen_ne_zero _
    · rw [(hother j e).gen]
      refine h.gen j ?_
      by_contra hf
      rw [(hother j e).free (by simpa using hf)] at hj
      cases hj
  · rw [hlow, h.low]
    omega
  · by_cases hc : r.cls = .alarm
    · refine le_trans ?_ h.reserve
      have hsub : (fun j => ((s.allocate i r).record j).any fun q => q.cls != .alarm) ≤
          fun j => (s.record j).any fun q => q.cls != .alarm := by
        intro j hj
        obtain ⟨q, hq, hcq⟩ := (Option.any_eq_true _ _).mp hj
        have hq := State.record_eq_some.mp hq
        by_cases e : j = i
        · rw [hslot j, if_pos e] at hq
          obtain ⟨p, b, hp, rfl⟩ := surfacedSlot_live hq
          cases hp
          simp [hc] at hcq
        · obtain ⟨p, hp, hcp⟩ := (hother j e).nonAlarm q hq (by simpa using hcq)
          exact (Option.any_eq_true _ _).mpr ⟨p, State.record_eq_some.mpr hp, by simpa using hcp⟩
      exact (List.monotone_filter_right allSlots hsub).length_le
    · have hfive : 5 ≤ s.table.freeCount := by simpa [reserveFor, hc] using hroom
      have hused := Table.card_le_of_not_free (t := (s.allocate i r).table)
        (fun j => ((s.allocate i r).record j).any fun q => q.cls != .alarm) fun j hj => by
          obtain ⟨q, hq, -⟩ := (Option.any_eq_true _ _).mp hj
          have hx : ((s.allocate i r).table.slot j).content = .live q := State.record_eq_some.mp hq
          simp [Slot.isFree, hx]
      change ((List.finRange 64).filter _).length ≤ 60
      omega

/-- An emptied table: all 64 slots FREE in their generations (R25). -/
theorem Table.emptied_slot (t : Table) (i : SlotIx) : t.emptied.slot i = (t.slot i).freed :=
  get_mapVector _ _ i

/-- All slots FREE: the count is 64. -/
theorem Table.freeCount_all {t : Table} (h : ∀ i, (t.slot i).isFree = true) : t.freeCount = 64 := by
  have hall : t.freeSlots = Finset.univ := Finset.filter_true_of_mem fun i _ => h i
  rw [t.freeCount_eq, hall]
  simp

/-- A table whose slots are all FREE is in order. -/
theorem TableSound.all_free {s : State} (hslot : ∀ i, (s.slot i).content = .free) (harr : s.table.arrival = [])
    (hlow : s.table.low = false) : TableSound s := by
  have hfree : ∀ i, (s.table.slot i).isFree = true := fun i => Slot.isFree_iff.mpr (hslot i)
  refine ⟨by simp [harr], fun i => ?_, fun i hi => ?_, ?_, ?_⟩
  · simp [harr, Slot.isLive, hslot i]
  · have := hfree i
    change (s.slot i).isFree = true at this
    rw [this] at hi
    cases hi
  · simp [hlow, Table.freeCount_all hfree]
  · have hnone : ∀ i, s.record i = none := fun i => by
      cases hr : s.record i with
      | none => rfl
      | some r => have := State.record_eq_some.mp hr; rw [hslot i] at this; cases this
    simp [hnone]

theorem State.reset_slot (i : SlotIx) : State.reset.slot i = { gen := 0#8, content := .free } := by
  simp [State.slot, Table.slot, State.reset, Vector.get_eq_getElem]

/-! ### Departures of a property that the slots alone decide -/

/-- The records of a departing link dealt with one by one, for a property of the table that freeing a slot and passing a
record on keep. -/
theorem State.departRecords_keeps {P : State → Prop} (htable : ∀ {s t : State}, P s → t.table = s.table → P t)
    (hfreed : ∀ {s : State} (i : SlotIx), P s → P (s.retireFree i))
    (howner : ∀ {s : State} {i : SlotIx} {r : Record} (o : Option Link), s.record i = some r → P s → P (s.setOwner i r o))
    {s : State} (h : P s) (l : Link) (all : Bool) : P (s.departRecords l all).1 := by
  unfold State.departRecords
  refine List.foldlRecOn (motive := fun acc : State × Tally => P acc.1) _ _ h fun acc hacc i _ => ?_
  rcases departSlot_cases l all acc i with ⟨e, -⟩ | ⟨r, hr, -, e | e | ⟨-, -, e⟩⟩ <;> rw [e]
  · exact hacc
  · exact hfreed i hacc
  · exact howner _ hr hacc
  · exact htable (howner (some l.other) hr hacc) (by simp)

/-! ### The invariant -/

theorem TableSound.freed {s : State} (h : TableSound s) {i : SlotIx} {r : Record} (hr : s.record i = some r) :
    TableSound (s.retireFree i) := by
  obtain ⟨hslot, harr, hlow, -, -⟩ := State.retireFree_spec hr
  exact h.retired hslot (.freed _) rfl harr hlow

theorem TableSound.moved {s : State} (h : TableSound s) {i : SlotIx} {r : Record} (hr : s.record i = some r)
    (ev : RecordEvent) (c : Cause) (st : Annunciation) : TableSound (s.moved ev c i r st) := by
  obtain ⟨hslot, harr, hlow, -, -⟩ := s.moved_spec ev c i r st
  have hset : TableSound (s.setRecord i (r.moveTo ev st s.startIn)) := h.setRecord hr rfl
  have hslot := State.slot_congr (s := s.setRecord i (r.moveTo ev st s.startIn)) (t := s.moved ev c i r st) hslot
  have hold : (s.setRecord i (r.moveTo ev st s.startIn)).table.arrival = s.table.arrival := by simp [State.setRecord]
  refine hset.aged_in_kind (fun j => .of_eq (hslot j)) (fun j => by rw [hslot j]; exact ⟨rfl, rfl⟩) ?_
    (hlow.trans (by simp [State.setRecord]))
  rw [harr, hold]
  split
  · have hi : i ∈ s.table.arrival := (h.live i).mpr (by simp [Slot.isLive, State.record_eq_some.mp hr])
    calc s.table.arrival.filter (· ≠ i) ++ [i]
      _ = s.table.arrival.erase i ++ [i] := by
        rw [h.nodup.erase_eq_filter]
        congr 1
        exact List.filter_congr fun j _ => by simp [bne, BEq.beq]
      List.Perm _ (i :: s.table.arrival.erase i) := List.perm_append_singleton ..
      List.Perm _ s.table.arrival := (List.perm_cons_erase hi).symm
  · exact .refl _

theorem tableSound_kept : KeptByOperations TableSound where
  reset := .all_free (fun i => by rw [State.reset_slot]) rfl rfl
  frame h ht _ := h.of_table ht
  session _ _ h := h.of_table rfl
  opened _ _ _ h := h.of_table rfl
  forgotten _ h := h.of_table rfl
  silenced _ hr h := h.setRecord hr rfl
  posted _ _ _ hroom hi h := h.posted (Table.lowestFree_isFree hi) hroom
  amended {s b p r} _ hr h := h.setRecord hr (by rw [Record.amend_eq])
  claimed _ _ hr _ _ h := h.setRecord hr rfl
  moved c hr _ _ h := h.moved hr _ c _
  freed hr h := h.freed hr
  entombed {s i r o} v hr _ h := by
    obtain ⟨hslot, harr, hlow, -, -⟩ := s.retireTombstone_spec i r o v
    have hx := State.record_eq_some.mp hr
    refine h.retired hslot (.entombed hx _) rfl harr ?_
    rw [hlow, lowAfterFreeing_of_count]
    refine State.freeCount_of_kind fun j => ?_
    rw [hslot j, (surfacedSlot_kind ..).2.1]
    split
    · next hj => subst hj; simp [Slot.isFree, hx]
    · rfl
  collected {s l} _ h := by
    obtain ⟨hslot, harr, hlow, -⟩ := s.collected_spec l
    refine h.tombstones_freed (fun j => ?_) harr hlow
    rw [hslot j]
    split
    · next hj => exact .inr ⟨hj.2, rfl⟩
    · exact .inl rfl
  emptied {s} h := by
    refine .all_free (fun i => ?_) rfl rfl
    exact congrArg Slot.content (s.table.emptied_slot i)
  ticked {s} h := by
    have hslot : ∀ j, (s.setTable { s.table with slots := mapVector Slot.tick s.table.slots }).slot j = (s.slot j).tick :=
      fun j => get_mapVector _ _ j
    exact h.aged_in_kind (fun j => by rw [hslot j]; exact (Slot.Ages.ticked _).1)
      (fun j => by rw [hslot j]; exact (Slot.Ages.ticked _).2) (.refl _) rfl
  closed {s} l all into h := by
    have hdealt := State.departRecords_keeps (P := TableSound) (fun h e => h.of_table e)
      (fun i h => by
        rename_i u
        cases hr : u.record i with
        | none => simpa [State.retireFree, hr] using h
        | some r => exact h.freed hr)
      (fun _ hr h => h.setRecord hr rfl) h l all
    obtain ⟨hslot, harr, hlow⟩ := State.freeTombstones_spec (s.departRecords l all).1 l
    refine TableSound.of_table (hdealt.tombstones_freed (fun j => ?_) harr hlow) (by simp)
    rw [hslot j]
    rcases Slot.dropTombstoneOf_cases l ((s.departRecords l all).1.slot j) with ⟨x, hx, -, e⟩ | ⟨e, -⟩
    · exact .inr ⟨Slot.isTombstone_iff.mpr ⟨x, hx⟩, e⟩
    · exact .inl e

/-- Settles O54: the bookkeeping is kept by every operation, so by every step. -/
theorem stepKeepsTable : Obligations.StepKeepsTable :=
  fun _ _ h e => tableSound_kept.step h e

end Sys2Proof.Machine

/-! ## Every LIVE record stays well formed (R5, R7, R8, R27)

The events of R29 and the ticks are the only ones that touch a record's state, latch or running count. -/

namespace Sys2Proof.Machine

theorem State.startIn_bounds (s : State) : 1 ≤ s.startIn ∧ s.startIn ≤ 2 := by
  unfold State.startIn
  split <;> omega

/-- `Record.Sound` reads neither the owner nor the silenced flag, and of key, glyph and class only what R4, R5 and R7 ask. -/
theorem Record.Sound.update {r q : Record} (h : r.Sound) (hkey : q.key ≠ 0#16) (hglyph : q.glyph ≠ 0#8)
    (hcls : q.cls = r.cls) (hlatch : q.latch = r.latch) (hstate : q.state = r.state) (hlife : q.lifetime = r.lifetime) :
    q.Sound := by
  refine ⟨hkey, hglyph, ?_, ?_, ?_, ?_, ?_, ?_⟩
  · rw [hcls, hlatch]; exact h.alarm
  · rw [hstate, hlatch]; exact h.steady
  · rw [hstate, hlatch]; exact h.awaitReset
  · rw [hlife]; exact h.lifetime
  · rw [hlife, hstate]; exact h.running
  · rw [hlife, hstate]; exact h.due

/-- A lifetime that is set now, to a period of at most 65535 ticks (R8, R22). -/
theorem lifetimeOf_sound {n startIn : Nat} (hn : n ≤ 65535) (hs : startIn ≤ 2) {x : Lifetime}
    (h : lifetimeOf n startIn = some x) :
    (1 ≤ x.period ∧ x.period ≤ 65535 ∧ x.remaining ≤ x.period ∧ x.startIn ≤ 2 ∧
      (x.startIn ≠ 0 → x.remaining = x.period)) ∧ 1 ≤ x.remaining ∧ x.due = false := by
  unfold lifetimeOf at h
  split at h
  · cases h
  · next hne =>
    cases h
    have hpos : 1 ≤ n := Nat.one_le_iff_ne_zero.mpr hne
    exact ⟨⟨hpos, hn, le_rfl, hs, fun _ => rfl⟩, hpos, rfl⟩

/-! ### POST and AMEND -/

theorem PostPayload.record_sound {b : List Byte} {p : PostPayload} (h : parsePost b = some p) (l : Link) {n : Nat}
    (hn : n ≤ 2) : (p.record l n).Sound := by
  obtain ⟨hkey, hglyph, halarm, hperiod, -⟩ := parsePost_eq_some.mp h
  have hlife := fun x => lifetimeOf_sound (n := p.period) (startIn := n) (by omega) hn (x := x)
  refine ⟨hkey, hglyph, fun hc hl => halarm ⟨hc, hl⟩, ?_, ?_, fun x hx => (hlife x hx).1, fun x hx _ => (hlife x hx).2.1,
    fun x hx hd => ?_⟩
  · simp [PostPayload.record]
  · unfold PostPayload.record
    dsimp only
    split <;> exact fun e => nomatch e
  · rw [(hlife x hx).2.2] at hd
    cases hd

/-- What the parser of AMEND has checked of the fields it selects (R20, R185). -/
theorem parseAmend_bounds {b : List Byte} {p : AmendPayload} (h : parseAmend b = some p) :
    (∀ g, p.glyph = some g → g ≠ 0#8) ∧ ∀ n, p.period = some n → n ≤ 65535 := by
  obtain ⟨sel, _, gl, _, _, _, _, -, -, -, -, hglyph, -, -, hperiod⟩ := parseAmend_eq_some.mp h
  refine ⟨fun g hg => ?_, fun n hn => ?_⟩
  · split at hglyph
    · rw [hglyph.2] at hg
      cases hg
      exact hglyph.1
    · rw [hglyph] at hg
      cases hg
  · split at hperiod
    · obtain ⟨x, hx, -⟩ := hperiod
      rw [hx] at hn
      cases hn
      omega
    · rw [hperiod] at hn
      cases hn

theorem Record.Sound.amended {r : Record} (h : r.Sound) {b : List Byte} {p : AmendPayload} (hp : parseAmend b = some p)
    {n : Nat} (hn : n ≤ 2) : (r.amend p n).Sound := by
  obtain ⟨hglyph, hperiod⟩ := parseAmend_bounds hp
  rw [Record.amend_eq]
  have hlife : ∀ x, (p.period.map (lifetimeOf · n)).getD r.lifetime = some x →
      r.lifetime = some x ∨ ∃ m, p.period = some m ∧ lifetimeOf m n = some x := by
    cases hq : p.period with
    | none => exact fun x hx => .inl hx
    | some m => exact fun x hx => .inr ⟨m, rfl, hx⟩
  refine ⟨h.key, ?_, h.alarm, h.steady, h.awaitReset, fun x hx => ?_, fun x hx hrun => ?_, fun x hx hd => ?_⟩
  · cases hg : p.glyph with
    | none => exact h.glyph
    | some g => exact hglyph g hg
  · rcases hlife x hx with hold | ⟨m, hm, hnew⟩
    · exact h.lifetime x hold
    · exact (lifetimeOf_sound (hperiod m hm) hn hnew).1
  · rcases hlife x hx with hold | ⟨m, hm, hnew⟩
    · exact h.running x hold hrun
    · exact (lifetimeOf_sound (hperiod m hm) hn hnew).2.1
  · rcases hlife x hx with hold | ⟨m, hm, hnew⟩
    · exact h.due x hold hd
    · rw [(lifetimeOf_sound (hperiod m hm) hn hnew).2.2] at hd
      cases hd

/-! ### Events and ticks -/

/-- The moves of R29: which event takes which annunciation state to which. -/
theorem annunciate_moved {ev : RecordEvent} {latch : Latch} {a b : Annunciation} (h : annunciate ev latch a = .moved b) :
    ((ev = .clear ∨ ev = .expire) ∧
      (a = .new ∧ b = .clearedNew ∨ a = .acked ∧ latch = .ackReset ∧ b = .awaitReset)) ∨
    (ev = .ack ∧ (a = .new ∧ b = .acked ∨ a = .clearedNew ∧ latch = .ackReset ∧ b = .awaitReset)) ∨
    (ev = .reassert ∧ (a = .acked ∨ a = .clearedNew ∨ a = .awaitReset) ∧ b = .new) := by
  cases ev <;> cases a <;> cases latch <;> simp_all [annunciate, clearing, acknowledging, resetting, reasserting]

theorem Record.Sound.moved {r : Record} (h : r.Sound) {ev : RecordEvent} {st : Annunciation} {n : Nat}
    (hm : annunciate ev r.latch r.state = .moved st) (hdue : ev = .expire → r.expiryDue = true) (hn : n ≤ 2) :
    (r.moveTo ev st n).Sound := by
  have hnotSteady : r.latch ≠ .none := fun hl => by
    have hs := h.steady.mpr hl
    rcases annunciate_moved hm with ⟨-, ⟨e, -⟩ | ⟨e, -⟩⟩ | ⟨-, ⟨e, -⟩ | ⟨e, -⟩⟩ | ⟨-, e | e | e, -⟩ <;>
      simp [hs] at e
  have hsteady : st ≠ .steady := by
    rcases annunciate_moved hm with ⟨-, ⟨-, e⟩ | ⟨-, -, e⟩⟩ | ⟨-, ⟨-, e⟩ | ⟨-, -, e⟩⟩ | ⟨-, -, e⟩ <;> simp [e]
  have hawait : st = .awaitReset → r.latch = .ackReset := by
    rcases annunciate_moved hm with ⟨-, ⟨-, e⟩ | ⟨-, hl, -⟩⟩ | ⟨-, ⟨-, e⟩ | ⟨-, hl, -⟩⟩ | ⟨-, -, e⟩ <;> simp [*]
  -- what the event makes of a lifetime, event by event (R39)
  have hlife : ∀ x, r.lifetime = some x →
      (1 ≤ (x.moved ev n).period ∧ (x.moved ev n).period ≤ 65535 ∧ (x.moved ev n).remaining ≤ (x.moved ev n).period ∧
        (x.moved ev n).startIn ≤ 2 ∧ ((x.moved ev n).startIn ≠ 0 → (x.moved ev n).remaining = (x.moved ev n).period)) ∧
      (st = .steady ∨ st = .new ∨ st = .acked → 1 ≤ (x.moved ev n).remaining) ∧
      ((x.moved ev n).due = true →
        (st = .steady ∨ st = .new ∨ st = .acked) ∧ (x.moved ev n).startIn = 0 ∧ (x.moved ev n).remaining = 1) := by
    intro x hx
    have hbound := h.lifetime x hx
    obtain ⟨hpos, hmax, hle, hstart, hfull⟩ := hbound
    rcases annunciate_moved hm with ⟨rfl | rfl, hst⟩ | ⟨rfl, hst⟩ | ⟨rfl, -, rfl⟩
    · have hstopped : ¬(st = .steady ∨ st = .new ∨ st = .acked) := by
        rcases hst with ⟨-, rfl⟩ | ⟨-, -, rfl⟩ <;> decide
      exact ⟨⟨hpos, hmax, hle, hstart, hfull⟩, fun e => absurd e hstopped, fun e => by cases e⟩
    · have hstopped : ¬(st = .steady ∨ st = .new ∨ st = .acked) := by
        rcases hst with ⟨-, rfl⟩ | ⟨-, -, rfl⟩ <;> decide
      have hxdue : x.due = true := by
        have := hdue rfl
        simp only [Record.expiryDue, hx, Option.any_some, Bool.and_eq_true] at this
        exact this.2
      exact ⟨⟨hpos, hmax, Nat.zero_le _, hstart, fun e => absurd (h.due x hx hxdue).2.1 e⟩,
        fun e => absurd e hstopped, fun e => by cases e⟩
    · refine ⟨⟨hpos, hmax, hle, hstart, hfull⟩, fun hrun => ?_, fun hd => ?_⟩
      · rcases hst with ⟨hnew, rfl⟩ | ⟨-, -, rfl⟩
        · exact h.running x hx (.inr (.inl hnew))
        · exact absurd hrun (by decide)
      · obtain ⟨hrun, hzero, hone⟩ := h.due x hx hd
        rcases hst with ⟨-, rfl⟩ | ⟨hcleared, -⟩
        · exact ⟨.inr (.inr rfl), hzero, hone⟩
        · rw [hcleared] at hrun
          exact absurd hrun (by decide)
    · exact ⟨⟨hpos, hmax, le_rfl, hn, fun _ => rfl⟩, fun _ => hpos, fun e => by cases e⟩
  have hmap : ∀ y, (r.moveTo ev st n).lifetime = some y → ∃ x, r.lifetime = some x ∧ x.moved ev n = y := fun y hy =>
    Option.map_eq_some_iff.mp hy
  refine ⟨h.key, h.glyph, h.alarm, iff_of_false hsteady hnotSteady, hawait, fun y hy => ?_, fun y hy => ?_,
    fun y hy => ?_⟩ <;> obtain ⟨x, hx, rfl⟩ := hmap y hy
  · exact (hlife x hx).1
  · exact (hlife x hx).2.1
  · exact (hlife x hx).2.2

/-- A running lifetime stays within 1 and its period over a tick, and owes its EXPIRE at 1 alone (R8, R38). -/
theorem Record.Sound.ticked {r : Record} (h : r.Sound) : r.tick.Sound := by
  unfold Record.tick
  split
  · next hruns =>
    have hrun : r.state = .steady ∨ r.state = .new ∨ r.state = .acked := by
      cases hs : r.state <;> simp_all [Annunciation.lifetimeRuns]
    have hmap : ∀ y, r.lifetime.map Lifetime.tick = some y → ∃ x, r.lifetime = some x ∧ x.tick = y := fun y hy =>
      Option.map_eq_some_iff.mp hy
    -- the three cases of a tick: still to start, more than one left, the last one
    have hlife : ∀ x, r.lifetime = some x → (1 ≤ x.tick.period ∧ x.tick.period ≤ 65535 ∧ x.tick.remaining ≤ x.tick.period ∧
        x.tick.startIn ≤ 2 ∧ (x.tick.startIn ≠ 0 → x.tick.remaining = x.tick.period)) ∧ 1 ≤ x.tick.remaining ∧
        (x.tick.due = true → x.tick.startIn = 0 ∧ x.tick.remaining = 1) := by
      intro x hx
      obtain ⟨hpos, hmax, hle, hstart, hfull⟩ := h.lifetime x hx
      have hone := h.running x hx hrun
      have hdue := fun hd => (h.due x hx hd).2
      unfold Lifetime.tick
      split
      · next hs =>
        refine ⟨⟨hpos, hmax, hle, ?_, fun _ => hfull hs⟩, hone, fun hd => absurd (hdue hd).1 hs⟩
        show x.startIn - 1 ≤ 2
        omega
      · next hs =>
        split
        · next hmore =>
          refine ⟨⟨hpos, hmax, ?_, hstart, fun e => absurd e hs⟩, ?_, fun hd => ?_⟩
          · show x.remaining - 1 ≤ x.period
            omega
          · show 1 ≤ x.remaining - 1
            omega
          · have := (hdue hd).2
            omega
        · exact ⟨⟨hpos, hmax, hle, hstart, hfull⟩, hone, fun _ => ⟨by simpa using hs, by dsimp only; omega⟩⟩
    refine ⟨h.key, h.glyph, h.alarm, h.steady, h.awaitReset, fun y hy => ?_, fun y hy _ => ?_, fun y hy hd => ?_⟩ <;>
      obtain ⟨x, hx, rfl⟩ := hmap y hy
    · exact (hlife x hx).1
    · exact (hlife x hx).2.1
    · exact ⟨hrun, (hlife x hx).2.2 hd⟩
  · exact h

/-! ### The invariant -/

theorem RecordsSound.of_table {s t : State} (h : RecordsSound s) (e : t.table = s.table) : RecordsSound t :=
  fun i r hr => h i r (by rwa [State.record_congr (s := s) (by rw [e])] at hr)

/-- One record replaced by a sound one. -/
theorem RecordsSound.setRecord {s : State} (h : RecordsSound s) (i : SlotIx) {q : Record} (hq : q.Sound) :
    RecordsSound (s.setRecord i q) := by
  intro j r hr
  rw [State.record_setRecord] at hr
  split at hr
  · cases hr
    exact hq
  · exact h j r hr

/-- One slot given contents that are FREE, a tombstone or a sound record, and a group re-decided. -/
theorem RecordsSound.of_surfaced {s t : State} (h : RecordsSound s) {i : SlotIx} {g : Group} {y : Slot}
    (hslot : ∀ j, t.slot j = surfacedSlot s t g j (if j = i then y else s.slot j))
    (hy : ∀ r, y.content = .live r → r.Sound) : RecordsSound t := by
  intro j q hq
  have hq := State.record_eq_some.mp hq
  rw [hslot j] at hq
  obtain ⟨r, b, hr, rfl⟩ := surfacedSlot_live hq
  have hsound : r.Sound := by
    split at hr
    · exact hy r hr
    · exact h j r (State.record_eq_some.mpr hr)
  exact hsound.update hsound.key hsound.glyph rfl rfl rfl rfl

/-- Slots left alone or freed. -/
theorem RecordsSound.of_freed {s t : State} (h : RecordsSound s)
    (hslot : ∀ j, t.slot j = s.slot j ∨ t.slot j = (s.slot j).freed) : RecordsSound t := by
  intro j q hq
  rcases hslot j with e | e
  · exact h j q (by rwa [State.record_of_slot e] at hq)
  · have := State.record_eq_some.mp hq
    rw [e] at this
    cases this

theorem RecordsSound.retireFree {s : State} (h : RecordsSound s) (i : SlotIx) : RecordsSound (s.retireFree i) := by
  cases hr : s.record i with
  | none => simpa [State.retireFree, hr] using h
  | some r => exact h.of_surfaced (State.retireFree_spec hr).1 fun q hq => by cases hq

theorem recordsSound_kept : KeptByOperations RecordsSound where
  reset i r hr := by
    have := State.record_eq_some.mp hr
    rw [State.reset_slot] at this
    cases this
  frame h ht _ := h.of_table ht
  session _ _ h := h.of_table rfl
  opened _ _ _ h := h.of_table rfl
  forgotten _ h := h.of_table rfl
  silenced {s i r} b hr h := h.setRecord i ((h i r hr).update (h i r hr).key (h i r hr).glyph rfl rfl rfl rfl)
  posted {s l b p i} _ hp _ _ hi h := by
    refine h.of_surfaced (State.allocate_spec _ (Table.lowestFree_isFree hi)).1 fun q hq => ?_
    cases hq
    exact PostPayload.record_sound hp l s.startIn_bounds.2
  amended {s b p r} hp hr h := h.setRecord _ ((h _ r hr).amended hp s.startIn_bounds.2)
  claimed {s l b p r} _ hp hr _ _ h :=
    h.setRecord _ ((h _ r hr).update (parseClaim_eq_some.mp hp).1 (h _ r hr).glyph rfl rfl rfl rfl)
  moved {s ev i r st} c hr hm hdue h := by
    have hset := h.setRecord i ((h i r hr).moved hm hdue s.startIn_bounds.2)
    intro j q hq
    rw [State.record_congr (s.moved_spec ev c i r st).1] at hq
    exact hset j q hq
  freed _ h := h.retireFree _
  entombed {s i r o} v _ _ h := h.of_surfaced (s.retireTombstone_spec i r o v).1 fun q hq => by cases hq
  collected {s l} _ h := by
    refine h.of_freed fun j => ?_
    rw [(s.collected_spec l).1 j]
    split
    · exact .inr rfl
    · exact .inl rfl
  emptied {s} h := h.of_freed fun i => .inr (s.table.emptied_slot i)
  ticked {s} h := by
    intro j q hq
    have hq := State.record_eq_some.mp hq
    have hslot : (s.setTable { s.table with slots := mapVector Slot.tick s.table.slots }).slot j = (s.slot j).tick :=
      get_mapVector _ _ j
    rw [hslot, Slot.tick] at hq
    split at hq
    · next r hr =>
      cases hq
      exact (h j r (State.record_eq_some.mpr hr)).ticked
    · exact h j q (State.record_eq_some.mpr hq)
  closed {s} l all into h := by
    have hdealt := State.departRecords_keeps (P := RecordsSound) (fun h e => h.of_table e) (fun i h => h.retireFree i)
      (fun {u i r} o hr h => h.setRecord i ((h i r hr).update (h i r hr).key (h i r hr).glyph rfl rfl rfl rfl)) h l all
    have hfreed : RecordsSound ((s.departRecords l all).1.freeTombstones l) := hdealt.of_freed fun j => by
      rw [(State.freeTombstones_spec _ l).1 j]
      rcases Slot.dropTombstoneOf_cases l ((s.departRecords l all).1.slot j) with ⟨_, -, -, e⟩ | ⟨e, -⟩
      · exact .inr e
      · exact .inl e
    exact hfreed.of_table (by simp)

/-- Settles O55: every operation leaves every LIVE record sound, so every step does. -/
theorem stepKeepsRecords : Obligations.StepKeepsRecords :=
  fun _ _ h e => recordsSound_kept.step h e

end Sys2Proof.Machine

/-! ## The rules of ownership are kept (R4, R154, R170)

`OwnershipSound` is read one link at a time: what the slots hold for the link, and the link's own session. Most operations
leave both alone; the others free what a slot holds, or make one slot hold something for one link. -/

namespace Sys2Proof.Machine

/-- What a slot holds for a link: the key of its LIVE record or of its tombstone, and whether it is a tombstone. -/
def Slot.heldFor (m : Link) (x : Slot) : Option (Word16 × Bool) :=
  match x.content with
  | .free => none
  | .live r => if r.owner = some m then some (r.key, false) else none
  | .tombstone t => if t.owner = m then some (t.key, true) else none

theorem Slot.heldFor_live {m : Link} {x : Slot} {r : Record} (h : x.content = .live r) :
    x.heldFor m = if r.owner = some m then some (r.key, false) else none := by
  simp [Slot.heldFor, h]

theorem Slot.heldFor_tombstone {m : Link} {x : Slot} {t : Tombstone} (h : x.content = .tombstone t) :
    x.heldFor m = if t.owner = m then some (t.key, true) else none := by
  simp [Slot.heldFor, h]

theorem Slot.heldFor_free {m : Link} {x : Slot} (h : x.content = .free) : x.heldFor m = none := by
  simp [Slot.heldFor, h]

theorem Slot.heldFor_freed (m : Link) (x : Slot) : x.freed.heldFor m = none := rfl

theorem Slot.heldFor_eq_live {m : Link} {x : Slot} {key : Word16} :
    x.heldFor m = some (key, false) ↔ ∃ r, x.content = .live r ∧ r.owner = some m ∧ r.key = key := by
  cases hx : x.content <;> simp [Slot.heldFor, hx]

theorem Slot.heldFor_eq_tombstone {m : Link} {x : Slot} {key : Word16} :
    x.heldFor m = some (key, true) ↔ ∃ t, x.content = .tombstone t ∧ t.owner = m ∧ t.key = key := by
  cases hx : x.content <;> simp [Slot.heldFor, hx]

theorem Slot.heldFor_isSome {m : Link} {x : Slot} :
    (x.heldFor m).isSome = true ↔
      (∃ r, x.content = .live r ∧ r.owner = some m) ∨ ∃ t, x.content = .tombstone t ∧ t.owner = m := by
  cases hx : x.content <;> simp [Slot.heldFor, hx]

/-- A record is replaced by one of the same owner and key. -/
theorem Slot.heldFor_record {m : Link} {x : Slot} {r q : Record} (hx : x.content = .live r) (ho : q.owner = r.owner)
    (hk : q.key = r.key) : ({ x with content := .live q } : Slot).heldFor m = x.heldFor m := by
  rw [Slot.heldFor_live hx, Slot.heldFor_live rfl, ho, hk]

@[simp] theorem Slot.heldFor_surfaced (m : Link) (s t : State) (g : Group) (j : SlotIx) (x : Slot) :
    (surfacedSlot s t g j x).heldFor m = x.heldFor m := by
  rcases surfacedSlot_same s t g j x with e | ⟨r, hr, e⟩ <;> rw [e]
  exact Slot.heldFor_record hr rfl rfl

theorem Slot.heldFor_tick (m : Link) (x : Slot) : x.tick.heldFor m = x.heldFor m := by
  unfold Slot.tick
  split
  · next r hr =>
    refine Slot.heldFor_record hr ?_ ?_ <;> unfold Record.tick <;> split <;> rfl
  · rfl

/-- The rules of ownership for one link. -/
structure OwnerSound (m : Link) (s : State) : Prop where
  out : s.inSession m = false → s.session m = .out (s.session m).state
  held : ∀ i, ((s.slot i).heldFor m).isSome = true → s.inSession m = true
  tombstone : ∀ i key, (s.slot i).heldFor m = some (key, true) → i ∈ (s.session m).changed
  changed : ∀ i ∈ (s.session m).changed, ((s.slot i).heldFor m).isSome = true
  ascending : (s.session m).changed.Pairwise (· < ·)
  keys : ∀ i j key, (s.slot i).heldFor m = some (key, false) → (s.slot j).heldFor m = some (key, false) → i = j

/-- `OwnershipSound` is `OwnerSound` of both links. -/
theorem ownershipSound_iff {s : State} : OwnershipSound s ↔ ∀ m, OwnerSound m s := by
  constructor
  · intro h m
    refine ⟨h.out m, fun i hi => ?_, fun i key hi => ?_, fun i hi => ?_, h.ascending m, fun i j key hi hj => ?_⟩
    · rcases Slot.heldFor_isSome.mp hi with ⟨r, hr, ho⟩ | ⟨t, ht, rfl⟩
      · exact h.owned i r m (State.record_eq_some.mpr hr) ho
      · exact (h.tombstone i t ht).1
    · obtain ⟨t, ht, rfl, -⟩ := Slot.heldFor_eq_tombstone.mp hi
      exact (h.tombstone i t ht).2
    · rw [Slot.heldFor_isSome]
      exact (h.changed m i hi).imp_left fun ⟨r, hr, ho⟩ => ⟨r, State.record_eq_some.mp hr, ho⟩
    · obtain ⟨r, hr, hro, hrk⟩ := Slot.heldFor_eq_live.mp hi
      obtain ⟨q, hq, hqo, hqk⟩ := Slot.heldFor_eq_live.mp hj
      exact h.keys i j r q m (State.record_eq_some.mpr hr) (State.record_eq_some.mpr hq) hro hqo (hrk.trans hqk.symm)
  · intro h
    refine ⟨fun m => (h m).out, fun i r m hr ho => ?_, fun i t ht => ?_, fun m i hi => ?_, fun m => (h m).ascending,
      fun i j r q m hr hq hro hqo hk => ?_⟩
    · exact (h m).held i (Slot.heldFor_isSome.mpr (.inl ⟨r, State.record_eq_some.mp hr, ho⟩))
    · exact ⟨(h t.owner).held i (Slot.heldFor_isSome.mpr (.inr ⟨t, ht, rfl⟩)),
        (h t.owner).tombstone i t.key (Slot.heldFor_eq_tombstone.mpr ⟨t, ht, rfl, rfl⟩)⟩
    · exact (Slot.heldFor_isSome.mp ((h m).changed i hi)).imp_left fun ⟨r, hr, ho⟩ =>
        ⟨r, State.record_eq_some.mpr hr, ho⟩
    · exact (h m).keys i j r.key (Slot.heldFor_eq_live.mpr ⟨r, State.record_eq_some.mp hr, hro, rfl⟩)
        (Slot.heldFor_eq_live.mpr ⟨q, State.record_eq_some.mp hq, hqo, hk.symm⟩)

namespace OwnerSound

variable {m : Link} {s t : State}

/-! ### What can become of one link -/

/-- The slots hold what they held for the link, its changed set stands, and it is in session or its session stands. -/
theorem update (h : OwnerSound m s) (hslot : ∀ j, (t.slot j).heldFor m = (s.slot j).heldFor m)
    (hchanged : (t.session m).changed = (s.session m).changed)
    (hsession : t.inSession m = true ∨ t.session m = s.session m) : OwnerSound m t := by
  refine ⟨fun hout => ?_, fun i hi => ?_, fun i key hi => ?_, fun i hi => ?_, hchanged ▸ h.ascending,
    fun i j key hi hj => ?_⟩
  · rcases hsession with hin | e
    · rw [hin] at hout
      cases hout
    · rw [e]
      exact h.out (by simpa [State.inSession, e] using hout)
  · rcases hsession with hin | e
    · exact hin
    · rw [hslot] at hi
      simpa [State.inSession, e] using h.held i hi
  · rw [hslot] at hi
    exact hchanged ▸ h.tombstone i key hi
  · rw [hslot]
    exact h.changed i (hchanged ▸ hi)
  · rw [hslot] at hi hj
    exact h.keys i j key hi hj

/-- The slots hold what they held for the link, and its session stands. -/
theorem same (h : OwnerSound m s) (hslot : ∀ j, (t.slot j).heldFor m = (s.slot j).heldFor m)
    (hsession : t.session m = s.session m) : OwnerSound m t :=
  h.update hslot (by rw [hsession]) (.inr hsession)

/-- Nothing is held for the link, and its changed set is empty. -/
theorem nothing_held (hslot : ∀ j, (t.slot j).heldFor m = none) (hchanged : (t.session m).changed = [])
    (hout : t.inSession m = false → t.session m = .out (t.session m).state) : OwnerSound m t := by
  refine ⟨hout, fun i hi => ?_, fun i key hi => ?_, fun i hi => ?_, hchanged ▸ List.Pairwise.nil, fun i j key hi => ?_⟩
  · simp [hslot i] at hi
  · simp [hslot i] at hi
  · simp [hchanged] at hi
  · simp [hslot i] at hi

/-- One slot is freed, and leaves the changed set. -/
theorem freed (h : OwnerSound m s) {i : SlotIx}
    (hslot : ∀ j, (t.slot j).heldFor m = if j = i then none else (s.slot j).heldFor m)
    (hsession : t.session m = { s.session m with changed := (s.session m).changed.filter (· ≠ i) }) :
    OwnerSound m t := by
  have hin : t.inSession m = s.inSession m := State.inSession_of_session (by rw [hsession])
  have hslot' : ∀ {j x}, (t.slot j).heldFor m = some x → j ≠ i ∧ (s.slot j).heldFor m = some x := by
    intro j x hj
    rw [hslot] at hj
    split at hj
    · cases hj
    · next e => exact ⟨e, hj⟩
  refine ⟨fun hout => ?_, fun j hj => ?_, fun j key hj => ?_, fun j hj => ?_, ?_, fun j k key hj hk => ?_⟩
  · rw [hsession, h.out (hin ▸ hout)]
    rfl
  · obtain ⟨x, hx⟩ := Option.isSome_iff_exists.mp hj
    rw [hin]
    exact h.held j (by rw [(hslot' hx).2]; rfl)
  · rw [hsession]
    exact List.mem_filter.mpr ⟨h.tombstone j key (hslot' hj).2, by simpa using (hslot' hj).1⟩
  · rw [hsession] at hj
    obtain ⟨hmem, hne⟩ := List.mem_filter.mp hj
    rw [hslot, if_neg (by simpa using hne)]
    exact h.changed j hmem
  · rw [hsession]
    exact h.ascending.filter _
  · exact h.keys j k key (hslot' hj).2 (hslot' hk).2

/-- One slot comes to hold something for the link, which is in session: a record under a key of its own, or a tombstone. The
slot joins the changed set, or the set stands where it is a record. -/
theorem held_at (h : OwnerSound m s) {i : SlotIx} {key : Word16} {dead : Bool}
    (hi : (t.slot i).heldFor m = some (key, dead)) (hin : t.inSession m = true)
    (hslot : ∀ j ≠ i, (t.slot j).heldFor m = (s.slot j).heldFor m)
    (hkey : dead = false → ∀ j ≠ i, (s.slot j).heldFor m ≠ some (key, false))
    (hchanged : (t.session m).changed = joinSlot i (s.session m).changed ∨
      dead = false ∧ (t.session m).changed = (s.session m).changed) : OwnerSound m t := by
  have hmem : ∀ j, j ∈ (s.session m).changed → j ∈ (t.session m).changed := by
    intro j hj
    rcases hchanged with e | ⟨-, e⟩ <;> rw [e]
    · exact mem_joinSlot.mpr (.inr hj)
    · exact hj
  refine ⟨fun hout => ?_, fun _ _ => hin, fun j k hj => ?_, fun j hj => ?_, ?_, fun j k x hj hk => ?_⟩
  · rw [hin] at hout
    cases hout
  · by_cases e : j = i
    · subst e
      rw [hi] at hj
      cases hj
      rcases hchanged with e | ⟨e, -⟩
      · rw [e]
        exact mem_joinSlot.mpr (.inl rfl)
      · cases e
    · rw [hslot j e] at hj
      exact hmem j (h.tombstone j k hj)
  · by_cases e : j = i
    · rw [e, hi]
      rfl
    · rw [hslot j e]
      refine h.changed j ?_
      rcases hchanged with e' | ⟨-, e'⟩ <;> rw [e'] at hj
      · exact (mem_joinSlot.mp hj).resolve_left e
      · exact hj
  · rcases hchanged with e | ⟨-, e⟩ <;> rw [e]
    · exact joinSlot_ascending i h.ascending
    · exact h.ascending
  · by_cases ej : j = i <;> by_cases ek : k = i
    · exact ej.trans ek.symm
    · rw [ej, hi] at hj
      cases hj
      rw [hslot k ek] at hk
      exact absurd hk (hkey rfl k ek)
    · rw [ek, hi] at hk
      cases hk
      rw [hslot j ej] at hj
      exact absurd hj (hkey rfl j ej)
    · rw [hslot j ej] at hj
      rw [hslot k ek] at hk
      exact h.keys j k x hj hk

/-- A slot whose record the link owns joins its changed set. -/
theorem joined (h : OwnerSound m s) {i : SlotIx} {r : Record} (hr : s.record i = some r) (ho : r.owner = some m)
    (hslot : ∀ j, (t.slot j).heldFor m = (s.slot j).heldFor m)
    (hsession : t.session m = { s.session m with changed := joinSlot i (s.session m).changed }) : OwnerSound m t := by
  have hi : (s.slot i).heldFor m = some (r.key, false) :=
    Slot.heldFor_eq_live.mpr ⟨r, State.record_eq_some.mp hr, ho, rfl⟩
  refine h.held_at ((hslot i).trans hi) ?_ (fun j _ => hslot j) (fun _ j hj e => hj (h.keys j i r.key e hi))
    (.inl (by rw [hsession]))
  rw [State.inSession_of_session (s := s) (by rw [hsession])]
  exact h.held i (by rw [hi]; rfl)

/-! ### Single operations -/

/-- A record replaced by one of the same owner and key. -/
theorem setRecord (h : OwnerSound m s) {i : SlotIx} {r q : Record} (hr : s.record i = some r) (ho : q.owner = r.owner)
    (hk : q.key = r.key) : OwnerSound m (s.setRecord i q) := by
  refine h.same (fun j => ?_) (State.session_congr (by simp) m)
  rw [State.slot_setRecord]
  split
  · next e => subst e; exact Slot.heldFor_record (State.record_eq_some.mp hr) ho hk
  · rfl

theorem retireFree (h : OwnerSound m s) (i : SlotIx) : OwnerSound m (s.retireFree i) := by
  cases hr : s.record i with
  | none => simpa [State.retireFree, hr] using h
  | some r =>
    obtain ⟨hslot, -, -, hsession, -⟩ := State.retireFree_spec hr
    refine h.freed (i := i) (fun j => ?_) (hsession m)
    rw [hslot j, Slot.heldFor_surfaced]
    split <;> rfl

/-- No record of the link stands under a key that FIND does not find. -/
theorem not_held_of_findKey {key : Word16} (h : s.table.findKey m key = none) (j : SlotIx) :
    (s.slot j).heldFor m ≠ some (key, false) := by
  intro hj
  obtain ⟨r, hr, ho, hk⟩ := Slot.heldFor_eq_live.mp hj
  exact Table.findKey_eq_none.mp h j r (State.record_eq_some.mpr hr) ho hk

/-- A record passed on to a link in session that holds no record under its key (R156, R158). -/
theorem passedOn (h : OwnerSound m s) {i : SlotIx} {q : Record} (hq : q.owner = some m) (hkey : s.table.findKey m q.key = none)
    (hslot : ∀ j, t.slot j = (s.setRecord i q).slot j)
    (hchanged : t.inSession m = true ∧ ((t.session m).changed = joinSlot i (s.session m).changed ∨
      (t.session m).changed = (s.session m).changed)) : OwnerSound m t := by
  refine h.held_at (i := i) (key := q.key) (dead := false) ?_ hchanged.1 (fun j hj => ?_)
    (fun _ j _ => not_held_of_findKey hkey j) (hchanged.2.imp_right fun e => ⟨rfl, e⟩)
  · rw [hslot, State.slot_setRecord, if_pos rfl, Slot.heldFor_live rfl, if_pos hq]
  · rw [hslot, State.slot_setRecord, if_neg hj]

/-! ### Departures -/

/-- The other link while a departing link's records are dealt with (R154 stage 2). -/
theorem departRecords {l : Link} (h : OwnerSound l.other s) (all : Bool) :
    OwnerSound l.other (s.departRecords l all).1 := by
  unfold State.departRecords
  refine List.foldlRecOn (motive := fun acc : State × Tally => OwnerSound l.other acc.1) _ _ h fun acc hacc i _ => ?_
  rcases departSlot_cases l all acc i with ⟨e, -⟩ | ⟨r, hr, ho, e | e | ⟨hin, hkey, e⟩⟩ <;> rw [e]
  · exact hacc
  · exact hacc.retireFree i
  · have hne : r.owner ≠ some l.other := fun c => l.ne_other (Option.some.inj (ho.symm.trans c))
    refine hacc.same (fun j => ?_) (State.session_congr (by simp) _)
    rw [State.setOwner, State.slot_setRecord]
    split
    · next e =>
      subst e
      rw [Slot.heldFor_live (State.record_eq_some.mp hr), if_neg hne, Slot.heldFor_live rfl, if_neg (by simp)]
    · rfl
  · refine hacc.passedOn (i := i) (q := { r with owner := some l.other }) rfl hkey
      (fun j => State.slot_congr (by simp [State.setOwner]) j) ⟨?_, .inl ?_⟩
    · rw [← hin]
      refine State.inSession_of_session ?_
      rw [State.joinChanged_session, if_pos rfl, State.session_congr (s := acc.1) (by simp)]
    · rw [State.joinChanged_session, if_pos rfl, State.session_congr (s := acc.1) (by simp)]

end OwnerSound

/-- A slot after one record's outcome is its departed owner's only where it was before, and is not the slot dealt with. -/
theorem departSlot_owned {l : Link} {all : Bool} {acc : State × Tally} {i j : SlotIx} {q : Record}
    (hq : (departSlot l all acc i).1.record j = some q) (ho : q.owner = some l) :
    j ≠ i ∧ ∃ r, acc.1.record j = some r ∧ r.owner = some l := by
  have hset : ∀ {r : Record} {o : Option Link} {u : State}, u.table.slots = (acc.1.setOwner i r o).table.slots →
      o ≠ some l → u.record j = some q → j ≠ i ∧ ∃ r, acc.1.record j = some r ∧ r.owner = some l := by
    intro r o u hu hne hj
    rw [State.record_congr hu, State.setOwner, State.record_setRecord] at hj
    split at hj
    · cases hj
      exact absurd ho hne
    · next e => exact ⟨e, q, hj, ho⟩
  rcases departSlot_cases l all acc i with ⟨e, hnot⟩ | ⟨r, hr, -, e | e | ⟨-, -, e⟩⟩ <;> rw [e] at hq
  · exact ⟨fun hj => hnot q (hj ▸ hq) ho, q, hq, ho⟩
  · have hx := State.record_eq_some.mp hq
    rw [(State.retireFree_spec hr).1 j] at hx
    obtain ⟨p, b, hp, rfl⟩ := surfacedSlot_live hx
    split at hp
    · cases hp
    · next hj => exact ⟨hj, p, State.record_eq_some.mpr hp, ho⟩
  · exact hset rfl (by simp) hq
  · exact hset (r := r) (by simp) (fun c => l.other_ne (Option.some.inj c)) hq

/-- A departing link owns no LIVE record once all its records are dealt with (R154 stage 2). -/
theorem State.departRecords_owned {s : State} {l : Link} {all : Bool} {j : SlotIx} {q : Record}
    (hq : (s.departRecords l all).1.record j = some q) : q.owner ≠ some l := by
  have hfold : ∀ (is : List SlotIx) (acc : State × Tally) (q : Record),
      (is.foldl (departSlot l all) acc).1.record j = some q → q.owner = some l →
        j ∉ is ∧ ∃ r, acc.1.record j = some r ∧ r.owner = some l := by
    intro is
    induction is with
    | nil => exact fun acc q hq ho => ⟨List.not_mem_nil, q, hq, ho⟩
    | cons i is ih =>
      intro acc q hq ho
      obtain ⟨hnot, r, hr, hro⟩ := ih (departSlot l all acc i) q hq ho
      obtain ⟨hne, hbefore⟩ := departSlot_owned hr hro
      exact ⟨fun hmem => (List.mem_cons.mp hmem).elim hne hnot, hbefore⟩
  exact fun ho => (hfold allSlots (s, .none) q hq ho).1 (List.mem_finRange j)

/-- A link after its departure: nothing is held for it (R154 stages 2 to 4). -/
theorem OwnerSound.departed (s : State) (l : Link) (all : Bool) (into : SessionState) :
    OwnerSound l (((s.departRecords l all).1.freeTombstones l).closeSession l into) := by
  set u := (s.departRecords l all).1 with hu
  have hsession : ((u.freeTombstones l).closeSession l into).session l = .out into := by
    simp [State.closeSession, State.session, State.setSession]
  have hnone : ∀ j, (((u.freeTombstones l).closeSession l into).slot j).heldFor l = none := by
    intro j
    rw [State.slot_congr (s := u.freeTombstones l) (by simp), (u.freeTombstones_spec l).1 j]
    rcases Slot.dropTombstoneOf_cases l (u.slot j) with ⟨_, -, -, e⟩ | ⟨e, hnot⟩ <;> rw [e]
    · rfl
    · cases hx : (u.slot j).content with
      | free => exact Slot.heldFor_free hx
      | live r => rw [Slot.heldFor_live hx, if_neg (State.departRecords_owned (State.record_eq_some.mpr hx))]
      | tombstone t => rw [Slot.heldFor_tombstone hx, if_neg (hnot t hx)]
  exact .nothing_held hnone (by rw [hsession]; rfl) fun _ => by rw [hsession]; rfl

/-- Both changed sets emptied. -/
theorem State.emptyChanged_session (s : State) (m : Link) :
    ((s.emptyChanged .a).emptyChanged .b).session m = { s.session m with changed := [] } := by
  unfold State.emptyChanged
  cases m <;> simp [State.session_setSession]

/-! ### The invariant -/

theorem ownerSound_kept : KeptByOperations fun s => ∀ m, OwnerSound m s where
  reset m := by
    have hsession : State.reset.session m = .out .offline := by cases m <;> rfl
    have hnone : ∀ j, (State.reset.slot j).heldFor m = none := fun j => by rw [State.reset_slot]; rfl
    exact .nothing_held hnone (by rw [hsession]; rfl) fun _ => by rw [hsession]; rfl
  frame h ht hl m := (h m).same (fun j => congrArg _ (State.slot_congr (by rw [ht]) j)) (by simp [State.session, hl])
  session {s l x} hin hc h m := by
    by_cases e : m = l
    · subst e
      exact (h m).update (fun _ => rfl) (by simpa using hc) (.inl (by simpa [State.inSession] using hin))
    · exact (h m).same (fun _ => rfl) (by rw [State.session_setSession, if_neg e])
  opened {s l x} hout hin hc h m := by
    by_cases e : m = l
    · subst e
      refine (h m).update (fun _ => rfl) ?_ (.inl (by simpa [State.inSession] using hin))
      rw [State.session_setSession, if_pos rfl, hc, (h m).out hout]
      rfl
    · exact (h m).same (fun _ => rfl) (by rw [State.session_setSession, if_neg e])
  forgotten {s l} hlost h m := by
    by_cases e : m = l
    · subst e
      have hout : s.inSession m = false := by simp [State.inSession, hlost, SessionState.inSession]
      have hsession : (s.setSessionState m .offline).session m = .out .offline := by
        rw [State.setSessionState, State.session_setSession, if_pos rfl, (h m).out hout]
        rfl
      refine .nothing_held (fun j => ?_) (by rw [hsession]; rfl) fun _ => by rw [hsession]; rfl
      cases hj : (s.slot j).heldFor m with
      | none => exact hj
      | some x => exact absurd ((h m).held j (by rw [hj]; rfl)) (by simp [hout])
    · exact (h m).same (fun _ => rfl) (by rw [State.setSessionState, State.session_setSession, if_neg e])
  silenced _ hr h m := (h m).setRecord hr rfl rfl
  posted {s l b p i} hin _ hkey _ hi h m := by
    have hfree : (s.slot i).isFree = true := Table.lowestFree_isFree hi
    obtain ⟨hslot, -, -, -, hsession, -⟩ := State.allocate_spec (p.record l s.startIn) hfree
    have hchanged : ((s.allocate i (p.record l s.startIn)).session m).changed = (s.session m).changed := by
      rw [hsession m]; split <;> rfl
    have hstate : (s.allocate i (p.record l s.startIn)).inSession m = s.inSession m :=
      State.inSession_of_session (by rw [hsession m]; split <;> rfl)
    have hother : ∀ j ≠ i, ((s.allocate i (p.record l s.startIn)).slot j).heldFor m = (s.slot j).heldFor m :=
      fun j hj => by rw [hslot j, Slot.heldFor_surfaced, if_neg hj]
    by_cases e : m = l
    · subst e
      refine (h m).held_at (i := i) (key := p.key) (dead := false) ?_ (hstate.trans hin) hother
        (fun _ j _ => OwnerSound.not_held_of_findKey hkey j) (.inr ⟨rfl, hchanged⟩)
      rw [hslot i, Slot.heldFor_surfaced, if_pos rfl, Slot.heldFor_live rfl]
      simp [PostPayload.record]
    · refine (h m).update (fun j => ?_) hchanged ?_
      · by_cases hj : j = i
        · subst hj
          rw [hslot j, Slot.heldFor_surfaced, if_pos rfl, Slot.heldFor_live rfl,
            if_neg (c := (p.record l s.startIn).owner = _) fun c => e (Option.some.inj c).symm, Slot.heldFor_free (Slot.isFree_iff.mp hfree)]
        · exact hother j hj
      · cases hm : s.inSession m with
        | true => exact .inl (hstate.trans hm)
        | false => exact .inr (by rw [hsession m, if_neg fun c => by rw [hm] at c; cases c.2])
  amended _ hr h m := (h m).setRecord hr (by rw [Record.amend_eq]) (by rw [Record.amend_eq])
  claimed {s l b p r} hin _ hr ho hkey h m := by
    by_cases e : m = l
    · subst e
      exact (h m).passedOn rfl hkey (fun _ => rfl)
        ⟨(State.inSession_congr (by simp) m).trans hin, .inr (by rw [State.session_congr (s := s) (by simp)])⟩
    · refine (h m).same (fun j => ?_) (State.session_congr (by simp) m)
      rw [State.slot_setRecord]
      split
      · next hj =>
        subst hj
        rw [Slot.heldFor_live (State.record_eq_some.mp hr), ho, if_neg (by simp), Slot.heldFor_live rfl,
          if_neg fun c => e (Option.some.inj c).symm]
      · rfl
  moved {s ev i r st} c hr _ _ h m := by
    obtain ⟨hslots, -, -, hsession, -⟩ := s.moved_spec ev c i r st
    have hheld : ∀ j, ((s.moved ev c i r st).slot j).heldFor m = (s.slot j).heldFor m := by
      intro j
      rw [State.slot_congr hslots, State.slot_setRecord]
      split
      · next e => subst e; exact Slot.heldFor_record (State.record_eq_some.mp hr) rfl rfl
      · rfl
    by_cases e : r.owner = some m ∧ c ≠ .link m
    · exact (h m).joined hr e.1 hheld (by rw [hsession m, if_pos e])
    · exact (h m).same hheld (by rw [hsession m, if_neg e])
  freed _ h m := (h m).retireFree _
  entombed {s i r o} v hr ho h m := by
    obtain ⟨hslot, -, -, hsession, -⟩ := s.retireTombstone_spec i r o v
    have hx := State.record_eq_some.mp hr
    have hother : ∀ j ≠ i, ((s.retireTombstone i r o v).slot j).heldFor m = (s.slot j).heldFor m := fun j hj => by
      rw [hslot j, Slot.heldFor_surfaced, if_neg hj]
    by_cases e : m = o
    · subst e
      refine (h m).held_at (i := i) (key := r.key) (dead := true) ?_ ?_ hother (fun c => by cases c)
        (.inl (by rw [hsession m, if_pos rfl]))
      · rw [hslot i, Slot.heldFor_surfaced, if_pos rfl, Slot.heldFor_tombstone rfl, if_pos rfl]
      · rw [State.inSession_of_session (s := s) (by rw [hsession m, if_pos rfl])]
        exact (h m).held i (by rw [Slot.heldFor_live hx, if_pos ho]; rfl)
    · refine (h m).same (fun j => ?_) (by rw [hsession m, if_neg e])
      by_cases hj : j = i
      · subst hj
        rw [hslot j, Slot.heldFor_surfaced, if_pos rfl, Slot.heldFor_tombstone rfl, if_neg (Ne.symm e),
          Slot.heldFor_live hx, ho, if_neg fun c => e (Option.some.inj c).symm]
      · exact hother j hj
  collected {s l} hin h m := by
    obtain ⟨hslot, -, -, hsessions⟩ := s.collected_spec l
    have hsession : (s.collected l).session m =
        if m = l then { s.session l with notices := .none, changed := (s.session l).changed.drop 8 }
        else s.session m := by
      rw [State.session, hsessions, PerLink.get_set]
      rfl
    by_cases e : m = l
    · subst e
      rw [if_pos rfl] at hsession
      have hmem : ∀ j, j ∈ (s.session m).changed ↔
          j ∈ (s.session m).changed.take 8 ∨ j ∈ (s.session m).changed.drop 8 := fun j => by
        rw [← List.mem_append, List.take_append_drop]
      have hdisjoint : ∀ j ∈ (s.session m).changed.drop 8, j ∉ (s.session m).changed.take 8 := by
        intro j hd ht
        have hnodup : ((s.session m).changed.take 8 ++ (s.session m).changed.drop 8).Nodup := by
          rw [List.take_append_drop]
          exact (h m).ascending.imp fun hlt => hlt.ne
        exact (List.nodup_append.mp hnodup).2.2 j ht j hd rfl
      have hstate : (s.collected m).inSession m = true := by rw [State.inSession, hsession]; exact hin
      refine ⟨fun hout => ?_, fun _ _ => hstate, fun j key hj => ?_, fun j hj => ?_, ?_, fun i j key hi hj => ?_⟩
      · rw [hstate] at hout
        cases hout
      · rw [hslot j] at hj
        split at hj
        · cases hj
        · next hkept =>
          obtain ⟨x, hx, -, -⟩ := Slot.heldFor_eq_tombstone.mp hj
          have htomb : (s.slot j).isTombstone = true := Slot.isTombstone_iff.mpr ⟨x, hx⟩
          rw [hsession]
          exact ((hmem j).mp ((h m).tombstone j key hj)).resolve_left fun c => hkept ⟨c, htomb⟩
      · rw [hsession] at hj
        rw [hslot j, if_neg fun c => hdisjoint j hj c.1]
        exact (h m).changed j ((hmem j).mpr (.inr hj))
      · rw [hsession]
        exact (h m).ascending.sublist (List.drop_sublist 8 _)
      · have hold : ∀ {j}, ((s.collected m).slot j).heldFor m = some (key, false) →
            (s.slot j).heldFor m = some (key, false) := by
          intro j hj
          rw [hslot j] at hj
          split at hj
          · cases hj
          · exact hj
        exact (h m).keys i j key (hold hi) (hold hj)
    · refine (h m).same (fun j => ?_) (by rw [hsession, if_neg e])
      rw [hslot j]
      split
      · next hj =>
        obtain ⟨x, hx⟩ := Slot.isTombstone_iff.mp hj.2
        have hlink := (h l).changed j (List.mem_of_mem_take hj.1)
        rw [Slot.heldFor_tombstone hx] at hlink
        split at hlink
        · next ho => rw [Slot.heldFor_tombstone hx, ho, if_neg (Ne.symm e), Slot.heldFor_freed]
        · cases hlink
      · rfl
  emptied {s} h m := by
    have hsession : (((s.setTable s.table.emptied).emptyChanged .a).emptyChanged .b).session m =
        { s.session m with changed := [] } := State.emptyChanged_session _ m
    have hnone : ∀ j, ((((s.setTable s.table.emptied).emptyChanged .a).emptyChanged .b).slot j).heldFor m = none :=
      fun j => by
        have hslot : (((s.setTable s.table.emptied).emptyChanged .a).emptyChanged .b).slot j = (s.slot j).freed :=
          s.table.emptied_slot j
        rw [hslot, Slot.heldFor_freed]
    refine .nothing_held hnone (by rw [hsession]) fun hout => ?_
    have hbefore : s.inSession m = false := by
      rw [← hout]
      exact (State.inSession_of_session (by rw [hsession])).symm
    rw [hsession, (h m).out hbefore]
    rfl
  ticked {s} h m := by
    refine (h m).same (fun j => ?_) rfl
    have hslot : (s.setTable { s.table with slots := mapVector Slot.tick s.table.slots }).slot j = (s.slot j).tick :=
      get_mapVector _ _ j
    rw [hslot, Slot.heldFor_tick]
  closed {s} l all into h m := by
    rcases Link.eq_or_other l m with rfl | rfl
    · exact OwnerSound.departed s m all into
    · refine ((h l.other).departRecords all).same (fun j => ?_) ?_
      · rw [State.slot_congr (s := (s.departRecords l all).1.freeTombstones l) (by simp),
          (State.freeTombstones_spec _ l).1 j]
        rcases Slot.dropTombstoneOf_cases l ((s.departRecords l all).1.slot j) with ⟨x, hx, ho, e⟩ | ⟨e, -⟩ <;> rw [e]
        rw [Slot.heldFor_tombstone hx, ho, if_neg l.ne_other, Slot.heldFor_freed]
      · simp [State.closeSession, State.session, State.setSession]

/-- Settles O56: every operation keeps the rules of ownership of both links, so every step does. -/
theorem stepKeepsOwnership : Obligations.StepKeepsOwnership :=
  fun _ _ h e => ownershipSound_iff.mpr (ownerSound_kept.step (ownershipSound_iff.mp h) e)

end Sys2Proof.Machine

namespace Sys2Proof.Machine

/-- POST, read on its own bytes: refused with a zero key, a zero glyph, a reserve byte that is not 0, or an ALARM of latch
NONE, and read back otherwise (R18). -/
theorem parsePost_bytes (p : PostPayload) (z : Byte) (hperiod : p.period < 65536) :
    parsePost
      (bytes16 p.key ++
        [byteOf p.group.val, p.cls.code, byteOf p.priority.val, p.latch.code, p.horn.code, p.policy.code, p.glyph, z] ++
        bytes16 (BitVec.ofNat 16 p.period)) =
      if p.key = 0#16 ∨ p.glyph = 0#8 ∨ z ≠ 0#8 ∨ (p.cls = .alarm ∧ p.latch = .none) then none else some p := by
  split
  · next hbad =>
    by_contra hread
    obtain ⟨q, hq⟩ := Option.ne_none_iff_exists'.mp hread
    obtain ⟨hkey, hglyph, halarm, -, hb⟩ := parsePost_eq_some.mp hq
    simp only [bytes16, List.cons_append, List.nil_append, List.cons.injEq] at hb
    obtain ⟨hhigh, hlow, -, hcls, -, hlatch, -, -, hgl, hz, -⟩ := hb
    have ekey : p.key = q.key := by rw [← word16_bytes p.key, hhigh, hlow, word16_bytes]
    have ecls : p.cls = q.cls := Option.some.inj ((classOf_eq_some.mpr rfl).symm.trans (classOf_eq_some.mpr hcls))
    have elatch : p.latch = q.latch := Option.some.inj ((latchOf_eq_some.mpr rfl).symm.trans (latchOf_eq_some.mpr hlatch))
    rw [ekey, ecls, elatch, hgl, hz] at hbad
    rcases hbad with h | h | h | h
    · exact hkey h
    · exact hglyph h
    · exact h rfl
    · exact halarm h
  · next hgood =>
    simp only [not_or, not_not] at hgood
    obtain ⟨hkey, hglyph, rfl, halarm⟩ := hgood
    exact parsePost_eq_some.mpr ⟨hkey, hglyph, halarm, hperiod, rfl⟩

/-- Settles O8: the CRC, the frames, every payload's parser and every field's code, each by its own lemma above. -/
theorem framesReadBack : Obligations.FramesReadBack := by
  have hshift : (fun c : Byte => if c.getLsbD 7 then (c <<< 1) ^^^ 0x07#8 else c <<< 1) = crcShift :=
    funext fun c => (crcShift_eq c).symm
  refine ⟨⟨rfl, fun bs b => ?_⟩, fun _ => rfl, fun a => ?_, fun _ _ => checkFrame_eq_some, fun _ => checkFrame_short,
    fun _ _ _ _ => checkFrame_malformed, parsePost_bytes, fun b => ?_, bytes16_eq, fun _ => rfl, rfl, rfl, rfl, rfl, rfl,
    rfl, rfl, rfl, rfl, rfl, rfl, rfl⟩
  · dsimp only
    rw [hshift]
    exact crc8_append bs b
  · obtain ⟨seq, result, payload⟩ := a
    cases result <;> rfl
  · exact ⟨fun _ h => (parsePost_eq_some.mp h).2.2.2, fun _ => parseAmend_eq_some, fun _ => parseStage_eq_some,
      fun _ => parseConfigure_eq_some, fun _ => parseAttach_eq_some, fun _ => parseClaim_eq_some,
      fun _ => parseTargets_handles, parseTargets_allVisible, fun _ => parseDetach_eq_some,
      fun _ => parsePermit_eq_some, fun _ => parseMask_eq_some, fun _ => parseHandle_eq_some,
      fun _ => parseFind_eq_some, fun _ _ => parseListGroup_eq_some, fun _ _ => parseReadMap_eq_some,
      fun _ => parseLampTest_eq_some⟩

end Sys2Proof.Machine

/-! ## Requests that change the table

A request that acts on the table ends alike: the horn is re-decided and the answer placed. `State.settled` is that end, and
what the Resolver, the table and the sessions show after it is what they showed before. -/

namespace Sys2Proof.Machine

theorem hasCode_of_eq {r : Request} {c : Byte} (h : r.code = c) : hasCode c r = true := by
  simp [hasCode, h]

theorem State.portsAnswering_congr {s t : State} (h : t.ports = s.ports) (l : Link) (r : Request) (v : Result)
    (payload : List Byte) : t.portsAnswering l r v payload = s.portsAnswering l r v payload := by
  simp [State.portsAnswering, State.port_congr h, h]

/-- The end of a request whose effects have left `u`: the horn re-decided, and the answer OK placed (R116, R138). -/
def State.settled (u : State) (l : Link) (r : Request) (payload : List Byte) : State :=
  { u.redecideHorn with ports := u.portsAnswering l r .ok payload }

theorem Reply.finish_settled (u : State) (l : Link) (r : Request) (payload : List Byte) :
    (Reply.ok u.redecideHorn payload).finish l r = u.settled l r payload := by
  rw [Reply.ok_finish, State.portsAnswering_congr (s := u) (by simp)]
  rfl

@[simp] theorem State.settled_table (u : State) (l : Link) (r : Request) (payload : List Byte) :
    (u.settled l r payload).table = u.table :=
  u.redecideHorn_frame.2.2.2.2.1

@[simp] theorem State.settled_sessions (u : State) (l : Link) (r : Request) (payload : List Byte) :
    (u.settled l r payload).sessions = u.sessions :=
  u.redecideHorn_frame.2.2.2.1

theorem State.settled_ports {s u : State} (h : u.ports = s.ports) (l : Link) (r : Request) (payload : List Byte) :
    (u.settled l r payload).ports = s.portsAnswering l r .ok payload :=
  State.portsAnswering_congr h l r .ok payload

theorem State.settled_slot (u : State) (l : Link) (r : Request) (payload : List Byte) (j : SlotIx) :
    (u.settled l r payload).slot j = u.slot j :=
  State.slot_congr (by simp) j

theorem State.settled_session (u : State) (l : Link) (r : Request) (payload : List Byte) (m : Link) :
    (u.settled l r payload).session m = u.session m :=
  State.session_congr (by simp) m

/-- Surfacing is judged the same before and after the end of the request. -/
theorem surfacedSlot_settled (s u : State) (l : Link) (r : Request) (payload : List Byte) (g : Group) (j : SlotIx)
    (x : Slot) : surfacedSlot s (u.settled l r payload) g j x = surfacedSlot s u g j x :=
  surfacedSlot_congr (SameView.visibleSlot
    (.of_fields (by simp) (congrArg OutputMap.active u.redecideHorn_frame.2.2.2.2.2.1)
      u.redecideHorn_frame.2.2.2.2.2.2.2.2.1) g) j x

theorem lowAfterFreeing_settled (s u : State) (l : Link) (r : Request) (payload : List Byte) :
    lowAfterFreeing s (u.settled l r payload) = lowAfterFreeing s u := by
  simp [lowAfterFreeing]

theorem State.sameRoles_settled {s u : State} (h : s.sameRoles u) (l : Link) (r : Request) (payload : List Byte) :
    s.sameRoles (u.settled l r payload) := by
  simpa [State.sameRoles] using h

/-- The horn at the end of a request whose effects did not touch it. -/
theorem State.settled_horn {s u : State} (horn : u.horn = s.horn) (l : Link) (r : Request) (payload : List Byte) :
    (u.settled l r payload).horn.enable = s.horn.enable ∧
      (u.settled l r payload).horn = s.hornAfter (u.settled l r payload) := by
  refine ⟨u.redecideHorn_spec.2.1.trans (by rw [horn]), ?_⟩
  have hafter := u.redecideHorn_hornAfter
  unfold State.hornAfter at hafter ⊢
  rw [horn] at hafter
  exact hafter

/-- Where the effects left the other blocks alone, so does the end, but for the horn's re-decision. -/
theorem State.sameBut_settled {s u : State} (h : u.held = s.held ∧ u.time = s.time ∧ u.map = s.map ∧ u.panel = s.panel ∧
      u.keys = s.keys ∧ u.supply = s.supply ∧ u.pending = s.pending ∧ u.horn = s.horn) (l : Link) (r : Request)
    (payload : List Byte) : s.sameBut (u.settled l r payload) := by
  obtain ⟨held, time, map, panel, keys, supply, pending, horn⟩ := h
  obtain ⟨held', time', -, -, -, map', panel', keys', supply', pending'⟩ := u.redecideHorn_frame
  exact ⟨held'.trans held, time'.trans time, map'.trans map, panel'.trans panel, keys'.trans keys,
    supply'.trans supply, pending'.trans pending, State.settled_horn horn l r payload⟩

/-! ### POST (R2, R11–R13, R18, R19) -/

/-- The lowest-numbered FREE slot (R11). -/
theorem Table.lowestFree_eq {t : Table} {i : SlotIx} (hi : (t.slot i).isFree = true)
    (hlow : ∀ j < i, (t.slot j).isFree = false) : t.lowestFree = some i := by
  unfold Table.lowestFree allSlots
  rw [List.find?_eq_some_iff_getElem]
  refine ⟨hi, i.val, by simp, by simp, fun j hj => ?_⟩
  have hlt : (⟨j, by omega⟩ : SlotIx) < i := hj
  simpa using hlow _ hlt

/-- A POST with a key of its own and room for its class is allocated the lowest FREE slot. -/
theorem execPost_allocates {l : Link} {s : State} {r : Request} {p : PostPayload} {i : SlotIx} (h : s.asks l r)
    (hcode : r.code = codePost) (hp : parsePost r.payload = some p) (hin : s.inSession l = true)
    (hkey : s.table.findKey l p.key = none) (hroom : reserveFor p.cls ≤ s.table.freeCount)
    (hfree : s.table.lowestFree = some i) :
    exec (.post l) s =
      .next ((s.allocate i (p.record l s.startIn)).settled l r (handleBytes i (nextGen (s.slot i).gen))) := by
  refine (takeRequest_asks h (hasCode_of_eq hcode) (postRequest l)).trans ?_
  rw [postRequest, needSession_pass hin, hp, needPayload_some, hkey, if_neg (by simp), if_neg (by omega), hfree]
  exact congrArg _ (Reply.finish_settled ..)

/-- Settles O22: the allocation as `State.allocate_spec` has it, and the two refusals in their order. -/
theorem postAllocatesOrRefuses : Obligations.PostAllocatesOrRefuses := by
  refine ⟨?_, ?_⟩
  · intro l s r p i h hcode hp hin hkeys hroom hfree hlowest gen written crossed
    have hkey : s.table.findKey l p.key = none := Table.findKey_eq_none.mpr hkeys
    have hwritten : p.record l s.startIn = written := rfl
    obtain ⟨hslot, harr, -, hlow, hsession, hroles⟩ := State.allocate_spec (p.record l s.startIn) hfree
    refine ⟨_, execPost_allocates h hcode hp hin hkey hroom (Table.lowestFree_eq hfree hlowest), fun j => ?_, ?_, ?_,
      fun m => ?_, State.sameRoles_settled hroles .., State.settled_ports (by simp [State.allocate]) ..,
      State.sameBut_settled (by simp [State.allocate]) ..⟩
    · rw [State.settled_slot, surfacedSlot_settled, hslot j]
      rfl
    · rw [State.settled_table, harr]
    · rw [State.settled_table, hlow]
    · rw [State.settled_session, hsession m]
  · intro l s r p h hcode hp hin
    refine ⟨fun ⟨j, q, hq, ho, hk⟩ => ?_, fun hkeys hfull => ?_⟩ <;>
      refine (takeRequest_asks h (hasCode_of_eq hcode) (postRequest l)).trans ?_ <;>
      rw [postRequest, needSession_pass hin, hp, needPayload_some]
    · have hkey : (s.table.findKey l p.key).isSome = true := by
        rw [Option.isSome_iff_ne_none]
        exact fun hnone => Table.findKey_eq_none.mp hnone j q hq ho hk
      rw [if_pos hkey, Reply.refused_finish]
    · rw [Table.findKey_eq_none.mpr hkeys, if_neg (by simp),
        if_pos (show s.table.freeCount < reserveFor p.cls from hfull), Reply.refused_finish]

/-! ### AMEND (R20–R22) -/

/-- Settles O23: the record amended in its slot, its group re-decided, and nothing else done. -/
theorem amendAppliesSelection : Obligations.AmendAppliesSelection := by
  intro l s r p q h hcode hp hin hresolve ho amended
  obtain ⟨hr, -, -⟩ := Table.resolve_eq_some hresolve
  have hamended : q.amend p s.startIn = amended := by
    rw [Record.amend_eq]
    cases hperiod : p.period with
    | none => simp [amended, hperiod]
    | some n => cases n <;> simp [amended, hperiod, lifetimeOf]
  have hexec : exec (.amend l) s =
      .next ((s.surface (s.setRecord p.handle.slot amended) q.group).settled l r []) := by
    refine (takeRequest_asks h (hasCode_of_eq hcode) (amendRequest l)).trans ?_
    rw [amendRequest, needSession_pass hin, hp, needPayload_some, needRecord_pass hresolve, needOwner_pass ho, hamended]
    exact congrArg _ (Reply.finish_settled ..)
  refine ⟨_, hexec, fun j => ?_, ?_, ?_, ?_, State.settled_ports (by simp) .., State.sameBut_settled (by simp) ..⟩
  · rw [State.settled_slot, surfacedSlot_settled, State.surface_slot,
      surfacedSlot_congr ((State.surface_view s _ _).visibleSlot _), State.slot_setRecord]
    split
    · next hj => rw [hj]
    · rfl
  · simp [State.setRecord]
  · simp [State.setRecord]
  · simp

/-! ### WITHDRAW and RETIRE (R14, R15, R23, R24) -/

/-- A retirement, the horn re-decided and the request answered. -/
theorem Retired.settled {s : State} {i : SlotIx} {q : Record} (hq : s.record i = some q) (c : Cause) (v : Reason)
    (l : Link) (r : Request) (payload : List Byte) :
    Retired s ((s.retire c v i).settled l r payload) c v i q := by
  obtain ⟨hslot, harr, hlow, hsession, hroles⟩ := State.retire_spec hq c v
  refine ⟨fun j => ?_, ?_, ?_, fun m => ?_, State.sameRoles_settled hroles .., State.sameBut_settled (by simp) ..⟩
  · rw [State.settled_slot, surfacedSlot_settled, hslot j]
  · rw [State.settled_table, harr]
  · rw [State.settled_table, hlow, lowAfterFreeing_settled]
  · rw [State.settled_session, hsession m]

/-- A retirement by the owner frees the slot (R14). -/
theorem State.retire_by_owner {s : State} {i : SlotIx} {q : Record} {l : Link} (hq : s.record i = some q)
    (ho : q.owner = some l) (v : Reason) :
    s.retire (.link l) v i = s.retireFree i ∧ s.retiredSlot (.link l) v i = (s.slot i).freed := by
  constructor
  · simp [State.retire, hq, ho]
  · simp [State.retiredSlot, hq, ho, Record.freedBy]

/-- Settles O27: both requests are the retirement of `State.retire_spec`, WITHDRAW with the owner as its cause. -/
theorem withdrawAndRetire : Obligations.WithdrawAndRetire := by
  refine ⟨fun i j c => ⟨mem_joinSlot, joinSlot_ascending i⟩, ?_⟩
  intro l s r i g q h hpayload hresolve
  obtain ⟨hq, -, -⟩ := Table.resolve_eq_some hresolve
  have hp : parseHandle r.payload = some { slot := i, gen := g } := by rw [hpayload, parseHandle_bytes]
  refine ⟨fun hcode hin ho => ?_, fun hcode hcommands => ?_⟩
  · obtain ⟨hfree, hslot⟩ := State.retire_by_owner hq ho .retiredByPrimary
    have hexec : exec (.withdraw l) s = .next ((s.retire (.link l) .retiredByPrimary i).settled l r []) := by
      refine (takeRequest_asks h (hasCode_of_eq hcode) (withdrawRequest l)).trans ?_
      rw [withdrawRequest, needSession_pass hin, hp, needPayload_some, needRecord_pass hresolve, needOwner_pass ho, hfree]
      exact congrArg _ (Reply.finish_settled ..)
    refine ⟨_, hexec, .settled hq .., ?_, State.settled_ports (by simp) ..⟩
    rw [(Retired.settled hq (.link l) .retiredByPrimary l r []).slots i, if_pos rfl, hslot]
    rfl
  · have hexec : exec (.retire l) s = .next ((s.retire (.link l) .retiredByPrimary i).settled l r []) := by
      refine (takeRequest_asks h (hasCode_of_eq hcode) (retireRequest l)).trans ?_
      rw [retireRequest, needSession_pass hcommands.1, needPrimary_pass hcommands.2, hp, needPayload_some,
        needRecord_pass hresolve]
      exact congrArg _ (Reply.finish_settled ..)
    exact ⟨_, hexec, .settled hq .., State.settled_ports (by simp) ..⟩

end Sys2Proof.Machine

/-! ## COLLECT (R173, R174) -/

namespace Sys2Proof.Machine

/-- A function defined on every member of a list answers one value for each, in order. -/
theorem filterMap_of_isSome {α β : Type} {f : α → Option β} :
    ∀ {xs : List α}, (∀ x ∈ xs, (f x).isSome = true) →
      (xs.filterMap f).length = xs.length ∧
        ∀ (n : Nat) (x : α) (y : β), xs[n]? = some x → f x = some y → (xs.filterMap f)[n]? = some y
  | [], _ => ⟨rfl, fun n x y h => by simp at h⟩
  | a :: xs, h => by
    obtain ⟨b, hb⟩ := Option.isSome_iff_exists.mp (h a (by simp))
    obtain ⟨hlen, hget⟩ := filterMap_of_isSome (xs := xs) fun x hx => h x (by simp [hx])
    rw [List.filterMap_cons_some hb]
    refine ⟨by simp [hlen], fun n x y hx hy => ?_⟩
    cases n with
    | zero =>
      simp only [List.getElem?_cons_zero, Option.some.injEq] at hx ⊢
      rw [← hx, hb] at hy
      exact Option.some.inj hy
    | succ n => simpa using hget n x y (by simpa using hx) hy

/-- A changed set of a sound part lists no FREE slot (R170). -/
theorem OwnershipSound.entryOf_isSome {s : State} (h : OwnershipSound s) {l : Link} {i : SlotIx}
    (hi : i ∈ (s.session l).changed) : (s.entryOf i).isSome = true := by
  unfold State.entryOf
  rcases h.changed l i hi with ⟨q, hq, -⟩ | ⟨x, hx, -⟩
  · rw [State.record_eq_some.mp hq]
    rfl
  · rw [hx]
    rfl

/-- An entry of the changed part is five bytes (R185). -/
theorem State.entryOf_length {s : State} {i : SlotIx} {e : List Byte} (h : s.entryOf i = some e) : e.length = 5 := by
  unfold State.entryOf at h
  split at h <;> cases h <;> rfl

theorem length_flatten_const {α : Type} {n : Nat} {xs : List (List α)} (h : ∀ x ∈ xs, x.length = n) :
    xs.flatten.length = n * xs.length := by
  rw [List.length_flatten, List.map_congr_left h]
  simp [Nat.mul_comm]

/-- Settles O16: what `State.collected` leaves, and the response byte by byte. -/
theorem collectDrainsSets : Obligations.CollectDrainsSets := by
  intro l s r h hcode hpayload hin hsound reported more n
  have hexec : exec (.collect l) s =
      .next { s.collected l with ports := (s.collected l).portsAnswering l r .ok (s.collectBytes l) } := by
    refine (takeRequest_asks h (hasCode_of_eq hcode) (collectRequest l)).trans ?_
    rw [collectRequest, needSession_pass hin, hpayload]
    rfl
  obtain ⟨hslot, harr, hlow, hsessions⟩ := s.collected_spec l
  obtain ⟨hlength, hentries⟩ := filterMap_of_isSome (f := s.entryOf) (xs := reported) fun i hi =>
    hsound.entryOf_isSome (List.mem_of_mem_take hi)
  have hmore : (!((s.session l).changed.drop collectLimit).isEmpty) = more := by
    rw [Bool.eq_iff_iff]
    simp [more, collectLimit]
  have hframe : (s.collected l).held = s.held ∧ (s.collected l).time = s.time ∧ (s.collected l).ports = s.ports ∧
      (s.collected l).map = s.map ∧ (s.collected l).panel = s.panel ∧ (s.collected l).keys = s.keys ∧
      (s.collected l).horn = s.horn ∧ (s.collected l).supply = s.supply ∧ (s.collected l).pending = s.pending := by
    simp [State.collected, State.freeReportedAll_frame]
  obtain ⟨held, time, ports, map, panel, keys, horn, supply, pending⟩ := hframe
  refine ⟨_, reported.filterMap s.entryOf, hexec, hslot, harr, hlow, hsessions, State.portsAnswering_congr ports ..,
    ?_, hlength, fun m i hi => ⟨fun q hq => ?_, fun x hx => ?_⟩, ?_, held, time, map, panel, keys, horn, supply, pending⟩
  · have hflat : (reported.filterMap s.entryOf).flatten.length = 5 * reported.length := by
      rw [length_flatten_const (n := 5), hlength]
      intro e he
      obtain ⟨i, -, hi⟩ := List.mem_filterMap.mp he
      exact State.entryOf_length hi
    have hparts : (s.collectBytes l).length = 11 + (reported.filterMap s.entryOf).flatten.length := by
      simp only [State.collectBytes, bytes16, NoticeSet.values, List.length_append, List.length_cons, List.length_nil]
      change 2 + 8 + ((reported.filterMap s.entryOf).flatten.length + 1) = _
      omega
    rw [hparts, hflat]
  · refine hentries m i _ hi ?_
    unfold State.entryOf
    rw [State.record_eq_some.mp hq]
    rfl
  · refine hentries m i _ hi ?_
    unfold State.entryOf
    rw [hx, BitVec.or_comm]
    rfl
  · have hbytes : s.collectBytes l = bytes16 (n.kinds more) ++ n.values ++
        (statusBit 7 more ||| byteOf reported.length) :: (reported.filterMap s.entryOf).flatten := by
      rw [← hmore, ← hlength]
      rfl
    rw [hbytes, List.append_assoc, List.append_assoc, List.append_cancel_left_eq]
    clear_value n more
    simp only [NoticeSet.values, List.cons_append, List.nil_append, List.cons.injEq, and_true]
    refine ⟨?_, ?_, ?_, ?_, ?_, rfl, ?_, ?_, ?_⟩
    · rcases n.role with _ | _ | _ | _ <;> rfl
    · rcases n.permit with _ | _ | _ <;> rfl
    · rcases n.peer with _ | _ | _ | _ | _ <;> rfl
    · rcases n.map with _ | _ | _ <;> rfl
    · rcases n.supply with _ | _ <;> rfl
    · rcases n.lamp with _ | _ | _ <;> rfl
    · rcases n.adoption with _ | _ | _ <;> rfl
    · cases more <;> rfl

end Sys2Proof.Machine

/-! ## RESTART (R25, R97, R120, R167) -/

namespace Sys2Proof.Machine

/-- The end of a running test is told to the primary in session (R98). -/
theorem State.endLamp_session (s : State) (m : Link) :
    s.endLamp.session m =
      if s.panel.lamp.running = true ∧ s.sessions.primary = some m ∧ s.inSession m = true then
        { s.session m with notices := { (s.session m).notices with lamp := some .ended } }
      else s.session m := by
  unfold State.endLamp
  split
  · next hrun =>
    rw [State.notifyPrimary_session]
    simp only [hrun, true_and]
    rfl
  · next hrun => rw [if_neg fun c => hrun c.1]

theorem State.endLamp_panel (s : State) :
    s.endLamp.panel = { s.panel with lamp := if s.panel.lamp.running then .idle else s.panel.lamp } := by
  rw [State.endLamp_spec]
  cases hrun : s.panel.lamp.running <;> simp

theorem State.endLamp_roles (s : State) : s.sameRoles s.endLamp := by
  rw [State.endLamp_spec, State.lampTold]
  split
  · refine ⟨?_, ?_, ?_, ?_⟩ <;> dsimp only <;> repeat' split
    all_goals rfl
  · exact ⟨rfl, rfl, rfl, rfl⟩

/-- A panel without a record is silent (R115). -/
theorem State.decideHorn_of_no_record {s : State} (h : ∀ i, s.record i = none) : s.decideHorn = .off := by
  have hnone : s.demanding = [] := by
    unfold State.demanding
    rw [List.filterMap_eq_nil_iff]
    intro g _
    cases s.visibleSlot g <;> simp [h]
  simp [State.decideHorn, hnone]

/-- The part with its table and both changed sets emptied (R25, R167). -/
def State.cleared (s : State) : State :=
  ((s.setTable s.table.emptied).emptyChanged .a).emptyChanged .b

/-- The part so emptied, RESTART told and the lamp test ended (R25, R97). -/
def State.restarted (s : State) : State :=
  (s.cleared.notifyBoth .putRestart).endLamp

theorem State.cleared_session (s : State) (m : Link) : s.cleared.session m = { s.session m with changed := [] } :=
  State.emptyChanged_session (s.setTable s.table.emptied) m

theorem State.sameRoles_trans {s t u : State} (h : s.sameRoles t) (h' : t.sameRoles u) : s.sameRoles u := by
  obtain ⟨primary, permit, waiting, due⟩ := h
  obtain ⟨primary', permit', waiting', due'⟩ := h'
  exact ⟨primary'.trans primary, permit'.trans permit, waiting'.trans waiting, due'.trans due⟩

/-- RESTART tells the links and touches no role. -/
theorem State.notified_roles (s : State) : s.sameRoles (s.cleared.notifyBoth .putRestart) := by
  have hcleared : s.sameRoles s.cleared := by simp [State.sameRoles, State.cleared, State.emptyChanged]
  exact State.sameRoles_trans hcleared
    (State.sameRoles_trans (s.cleared.notify_roles .a .putRestart) ((s.cleared.notify .a .putRestart).notify_roles .b .putRestart))

theorem State.restarted_roles (s : State) : s.sameRoles s.restarted :=
  State.sameRoles_trans s.notified_roles (State.endLamp_roles _)

theorem State.restarted_panel (s : State) :
    s.restarted.panel = { s.panel with lamp := if s.panel.lamp.running then .idle else s.panel.lamp } := by
  have hpanel : (s.cleared.notifyBoth .putRestart).panel = s.panel := by simp [State.cleared, State.emptyChanged]
  rw [State.restarted, State.endLamp_panel, hpanel]

/-- What RESTART leaves to both links: an empty changed set, and in session RESTART and the end of the primary's test. -/
theorem State.restarted_session (s : State) (m : Link) :
    s.restarted.session m =
      { s.session m with
        changed := []
        notices :=
          if s.inSession m then
            { (s.session m).notices with
              restart := true
              lamp := if s.sessions.primary = some m ∧ s.panel.lamp.running = true then some .ended
                else (s.session m).notices.lamp }
          else (s.session m).notices } := by
  have hin : s.cleared.inSession m = s.inSession m := State.inSession_of_session (by rw [State.cleared_session])
  have hinNotified : (s.cleared.notifyBoth .putRestart).inSession m = s.inSession m := by
    rw [State.notifyBoth, State.notify_inSession, State.notify_inSession, hin]
  have hpanel : (s.cleared.notifyBoth .putRestart).panel = s.panel := by simp [State.cleared, State.emptyChanged]
  rw [State.restarted, State.endLamp_session, State.notifyBoth_session, hin, hinNotified, hpanel, s.notified_roles.1,
    State.cleared_session]
  by_cases hsess : s.inSession m = true
  · by_cases hended : s.sessions.primary = some m ∧ s.panel.lamp.running = true
    · simp [hsess, hended, NoticeSet.putRestart]
    · have hkept : ¬(s.panel.lamp.running = true ∧ s.sessions.primary = some m ∧ s.inSession m = true) :=
        fun h => hended ⟨h.2.1, h.1⟩
      rw [if_neg hkept, if_neg hended]
      simp [hsess, NoticeSet.putRestart]
  · simp [hsess]

/-- Settles O35: the emptied table, what both links are told, and the horn that no record demands. -/
theorem restartEmptiesTable : Obligations.RestartEmptiesTable := by
  intro l s r h hcode hpayload hcommands hidle
  set u := s.restarted.setKeys { s.restarted.keys with chord := s.restarted.keys.chord.restart s.time.clock } with hu
  have hexec : exec (.restart l) s = .next (u.settled l r []) := by
    refine (takeRequest_asks h (hasCode_of_eq hcode) (restartRequest l)).trans ?_
    rw [restartRequest, needSession_pass hcommands.1, needPrimary_pass hcommands.2, hpayload]
    exact congrArg _ ((congrArg (fun y => Reply.finish y l r) (needIdleCommit_pass hidle _)).trans
      (Reply.finish_settled u l r []))
  obtain ⟨held, time, ports, table, horn, map, keys, supply, pending⟩ :
      s.restarted.held = s.held ∧ s.restarted.time = s.time ∧ s.restarted.ports = s.ports ∧
      s.restarted.table = s.table.emptied ∧ s.restarted.horn = s.horn ∧ s.restarted.map = s.map ∧
      s.restarted.keys = s.keys ∧ s.restarted.supply = s.supply ∧ s.restarted.pending = s.pending := by
    simp [State.restarted, State.cleared, State.emptyChanged]
  obtain ⟨held', time', -, -, -, map', panel', keys', supply', pending'⟩ := u.redecideHorn_frame
  have hslot : ∀ i, u.slot i = (s.slot i).freed := fun i =>
    (congrArg (fun t : Table => t.slot i) table).trans (s.table.emptied_slot i)
  have hsilent : (u.settled l r []).decideHorn = .off := by
    refine State.decideHorn_of_no_record fun i => ?_
    have hfreed : (u.settled l r []).slot i = (s.slot i).freed := (State.settled_slot ..).trans (hslot i)
    have hnone : ∀ q, (u.settled l r []).record i ≠ some q := fun q hq => by
      rw [State.record_eq_some, hfreed] at hq
      cases hq
    exact Option.eq_none_iff_forall_ne_some.mpr hnone
  obtain ⟨henable, hhorn⟩ := State.settled_horn (s := s) (u := u) horn l r []
  refine ⟨_, hexec, fun i => ?_, ?_, ?_, ?_, fun m => ?_, State.sameRoles_settled (u := u) s.restarted_roles .., ?_, ?_,
    u.redecideHorn_spec.1.trans hsilent, henable, hhorn, State.settled_ports ports .., held'.trans held,
    time'.trans time, map'.trans map, supply'.trans supply, pending'.trans pending⟩
  · rw [State.settled_slot, hslot]
  · exact congrArg Table.arrival ((State.settled_table u l r []).trans table)
  · exact congrArg Table.low ((State.settled_table u l r []).trans table)
  · rw [State.settled_table]
    exact Table.freeCount_all fun i => congrArg Slot.isFree (hslot i)
  · have hprimary : (s.sessions.primary = some m) ↔ m = l := by
      rw [hcommands.2, Option.some.injEq, eq_comm]
    rw [State.settled_session]
    simp only [← hprimary]
    exact s.restarted_session m
  · exact panel'.trans s.restarted_panel
  · refine keys'.trans ?_
    rw [hu, keys]
    cases s.keys.chord <;> simp [State.setKeys, Chord.restart, chordMicros]

end Sys2Proof.Machine

/-! ## LIST_GROUP, PANEL_STATUS and READ_MAP (R1, R80, R178, R179) -/

namespace Sys2Proof.Machine

/-! ### The four counts (R1) -/

theorem Slot.isLive_eq_record (s : State) (i : SlotIx) : (s.slot i).isLive = (s.record i).isSome := by
  rw [Bool.eq_iff_iff, Slot.isLive_iff, Option.isSome_iff_exists]
  exact exists_congr fun q => State.record_eq_some.symm

theorem Slot.isFree_eq_decide (x : Slot) : x.isFree = decide (x.content = .free) := by
  rw [Bool.eq_iff_iff, Slot.isFree_iff, decide_eq_true_iff]

theorem Slot.isTombstone_eq_record (s : State) (i : SlotIx) :
    (s.slot i).isTombstone = (decide ((s.slot i).content ≠ .free) && (s.record i).isNone) := by
  rw [← Option.not_isSome, ← Slot.isLive_eq_record]
  unfold Slot.isTombstone Slot.isLive
  cases (s.slot i).content <;> simp

theorem Slot.isOrphan_eq_record (s : State) (i : SlotIx) :
    (s.slot i).isOrphan = (s.record i).any fun q => decide (q.owner = none) := by
  rw [Bool.eq_iff_iff, Slot.isOrphan_iff, Option.any_eq_true]
  exact exists_congr fun q => and_congr State.record_eq_some.symm (decide_eq_true_iff (p := q.owner = none)).symm

/-- A count over the slots is a count over their numbers. -/
theorem State.countP_slots (s : State) {p : Slot → Bool} {f : SlotIx → Bool} (h : ∀ i, p (s.slot i) = f i) :
    s.table.slots.toList.countP p = ((List.finRange 64).filter f).length := by
  rw [s.table.countP_slots, show (fun i => p (s.table.slot i)) = f from funext h]

/-- Every slot is FREE, LIVE or TOMBSTONE, and one of these alone. -/
theorem Slot.countP_kinds (xs : List Slot) :
    xs.countP Slot.isFree + xs.countP Slot.isLive + xs.countP Slot.isTombstone = xs.length := by
  induction xs with
  | nil => rfl
  | cons x xs ih =>
    rcases x with ⟨gen, _ | _ | _⟩ <;>
      simp only [List.countP_cons, List.length_cons, Slot.isFree, Slot.isLive, Slot.isTombstone] <;> grind

theorem Table.counts_add (t : Table) : t.freeCount + t.liveCount + t.tombstoneCount = 64 :=
  (Slot.countP_kinds _).trans (by simp)

/-! ### The entries of a group (R178) -/

theorem Table.mem_arrival_of_mem_claimList {t : Table} {g : Group} {i : SlotIx} (h : i ∈ t.claimList g) :
    i ∈ t.arrival :=
  (List.mem_filter.mp ((List.perm_insertionSort _ _).mem_iff.mp h)).1

theorem State.listEntry_isSome {s : State} {g : Group} {i : SlotIx}
    (hlive : ∀ j ∈ s.table.arrival, (s.slot j).isLive = true) (hi : i ∈ s.table.claimList g) :
    (s.listEntry i).isSome = true := by
  rw [State.listEntry, Option.isSome_map, ← Slot.isLive_eq_record]
  exact hlive i (Table.mem_arrival_of_mem_claimList hi)

theorem selectsStaged_iff {b : List Byte} : selectsStaged b = true ↔ ∃ g, b = [g, 1#8] := by
  unfold selectsStaged
  split
  · simp
  · next hne => exact iff_of_false (by simp) fun ⟨g, e⟩ => hne g _ e

/-- The role check of READ_MAP passes the staged map for the primary alone (R80). -/
theorem readMap_permitted {s : State} {l : Link} {b : List Byte} (h : ∀ g, b = [g, 1#8] → s.sessions.primary = some l) :
    ¬(selectsStaged b = true ∧ s.isPrimary l = false) := by
  rintro ⟨hsel, hnot⟩
  obtain ⟨g, hb⟩ := selectsStaged_iff.mp hsel
  simp [State.isPrimary, h g hb] at hnot

/-- Settles O29: the counts slot by slot, and the three answers. -/
theorem panelQueriesRead : Obligations.PanelQueriesRead := by
  refine ⟨fun x => ⟨Slot.isFree_iff, Slot.isLive_iff, Slot.isTombstone_iff, Slot.isOrphan_iff⟩,
    fun s i => ⟨rfl, fun q => State.record_eq_some⟩, ⟨List.nodup_finRange 64, List.mem_finRange⟩,
    fun s => ⟨s.countP_slots fun i => (s.slot i).isFree_eq_decide, s.countP_slots (Slot.isLive_eq_record s),
      s.countP_slots (Slot.isTombstone_eq_record s), s.countP_slots (Slot.isOrphan_eq_record s)⟩,
    fun l s r h hin => ⟨fun g start hcode hpayload => ?_, fun hcode hpayload => ⟨?_, s.table.counts_add⟩,
      fun g staged hcode hpayload hrole => ?_⟩⟩
  · intro shown hlive
    obtain ⟨hlength, hentry⟩ := filterMap_of_isSome (f := s.listEntry) (xs := shown) fun i hi =>
      State.listEntry_isSome hlive (List.mem_of_mem_drop (List.mem_of_mem_take hi))
    refine ⟨shown.filterMap s.listEntry, hlength, fun n i q hi hq => hentry n i _ hi ?_, ?_⟩
    · rw [State.listEntry, hq]
      rfl
    · refine (takeRequest_asks h (hasCode_of_eq hcode) (listGroupRequest l)).trans ?_
      rw [listGroupRequest, needSession_pass hin, parseListGroup_eq_some.mpr ⟨start.isLt, hpayload⟩, needPayload_some,
        Reply.ok_finish, ← hlength]
      rfl
  · refine (takeRequest_asks h (hasCode_of_eq hcode) (panelStatusRequest l)).trans ?_
    rw [panelStatusRequest, needSession_pass hin, hpayload]
    rfl
  · refine (takeRequest_asks h (hasCode_of_eq hcode) (readMapRequest l)).trans ?_
    have hpermitted : ∀ b, r.payload = [b, 1#8] → s.sessions.primary = some l := fun b hb => by
      rw [hpayload] at hb
      cases staged with
      | false => cases hb
      | true => exact hrole rfl
    rw [readMapRequest, needSession_pass hin, parseReadMap_eq_some.mpr hpayload, needPayload_some,
      if_neg (readMap_permitted hpermitted), Reply.ok_finish]
    cases staged <;> rfl

end Sys2Proof.Machine

/-! ## Device reset, its release, and the reset state (R26, R70, R97, R101, R120, R121, R146, R147) -/

namespace Sys2Proof.Machine

/-! ### The default map (R70) -/

theorem defaultMap_get (g : Group) : defaultMap.get g = MapEntry.default g.val := by
  simp only [defaultMap, Vector.get, List.getElem_toArray, List.getElem_map, List.getElem_range]
  rfl

/-- A point stands in the default entry of the group it is counted to by fours. -/
theorem mem_points_default {g : Group} {p : Point} : p ∈ (MapEntry.default g.val).points ↔ p.val / 4 = g.val := by
  have hg := g.isLt
  simp only [MapEntry.default, List.mem_cons, List.not_mem_nil, or_false, Fin.ext_iff, Fin.ofNat]
  omega

theorem defaultMap_disjoint : PointsDisjoint defaultMap := by
  intro g h p hg hh
  rw [defaultMap_get, mem_points_default] at hg hh
  exact Fin.ext (hg.symm.trans hh)

theorem defaultMap_limited : Limited defaultMap := by
  intro g
  have hg := g.isLt
  have hnodup : (MapEntry.default g.val).points.Nodup := by
    simp only [MapEntry.default, List.nodup_cons, List.mem_cons, List.not_mem_nil, or_false, not_or, List.nodup_nil,
      not_false_eq_true, and_true, Fin.ext_iff, Fin.ofNat]
    omega
  rw [defaultMap_get]
  exact ⟨hnodup, by simp [MapEntry.default]⟩

/-! ### The reset state -/

theorem State.reset_session (l : Link) : State.reset.session l = .out .offline := by
  cases l <;> rfl

theorem State.reset_inSession (l : Link) : State.reset.inSession l = false := by
  cases l <;> rfl

theorem State.reset_record (i : SlotIx) : State.reset.record i = none := by
  rw [Option.eq_none_iff_forall_ne_some]
  intro q hq
  rw [State.record_eq_some, State.reset_slot] at hq
  cases hq

theorem rolesSound_reset : RolesSound State.reset where
  primary l := by
    rw [State.reset_session]
    exact iff_of_false nofun nofun
  permit l h := nomatch h
  waiting l h := nomatch h
  due l h := nomatch h
  executing l h := by rcases h with h | h <;> cases h
  vacant _ := ⟨rfl, rfl⟩
  keepalive l h := by rw [State.reset_inSession] at h; cases h

theorem hornSound_reset : HornSound State.reset where
  decided := (State.decideHorn_of_no_record State.reset_record).symm
  off _ := rfl

theorem panelSound_reset : PanelSound State.reset where
  idle _ := rfl
  running h := nomatch h
  critical h := nomatch h
  recovery _ := rfl
  chord h := absurd rfl h
  timing _ k := by cases k <;> simp [State.reset, PerKey.get]
  held h := nomatch h

theorem mapSound_reset : MapSound State.reset where
  active := ⟨defaultMap_limited, defaultMap_disjoint⟩
  staged := defaultMap_limited
  pending h := nomatch h

/-- Settles O60: the base case of each invariant. -/
theorem resetIsSound : Obligations.ResetIsSound :=
  ⟨rolesSound_reset, tableSound_kept.reset, recordsSound_kept.reset, ownershipSound_iff.mpr ownerSound_kept.reset,
    hornSound_reset, panelSound_reset, mapSound_reset⟩

/-! ### Device reset and its release -/

theorem State.hornOutput_of_held {s : State} (h : s.held = true) : s.hornOutput = .low := by
  simp [State.hornOutput, h]

/-- No display output is driven during device reset (R89). -/
theorem State.dark_of_held {s : State} (h : s.held = true) (quarter common : Fin 4) (segment : Fin 24) :
    s.commonSinks quarter common = false ∧ s.segmentSources quarter segment = false := by
  simp [State.commonSinks, State.segmentSources, h]

theorem debounceAtRelease_eq (c : Contact) : debounceAtRelease c = if c = .closed then some 0 else none := by
  cases c <;> rfl

theorem State.release_timing (s : State) (k : KeyId) :
    s.release.keys.timing.get k = if s.keys.pins.get k = .closed then some 0 else none := by
  cases k <;> exact debounceAtRelease_eq _

/-- Settles O48: the reset value of every block, and the release of a held and of a running part. -/
theorem deviceResetAndRelease : Obligations.DeviceResetAndRelease := by
  refine ⟨fun st => rfl, rfl, ⟨rfl, rfl, fun k => by cases k <;> rfl, rfl⟩, fun s => ?_,
    fun s => ⟨fun hrun => ?_, fun hheld => ?_⟩⟩
  · refine ⟨s.holdInReset, rfl, rfl, State.reset_slot, rfl, rfl, fun l => ?_, State.dark_of_held rfl, rfl, rfl, rfl, rfl,
      defaultMap_get, rfl, rfl, rfl, rfl, fun p => ?_, fun k => ?_, rfl, rfl, rfl, rfl, rfl, State.hornOutput_of_held rfl,
      rfl, rfl⟩
    · cases l <;> exact ⟨rfl, rfl, rfl, rfl, rfl, rfl⟩
    · simp [State.holdInReset, State.reset, Vector.get]
    · cases k <;> exact ⟨rfl, rfl, rfl⟩
  · exact if_neg (Bool.not_eq_true _ ▸ hrun)
  · exact ⟨s.release, if_pos hheld, rfl, rfl, s.release_timing, rfl, rfl, rfl, rfl, rfl, rfl, rfl, rfl, rfl⟩

end Sys2Proof.Machine

/-! ## The refusals of R181, in the order of the checks

A request row first checks the session, then the caller's role, the payload, the record and its owner. `RowChecks` says what
is left of a row once session and role have passed: the payload check, and under it the check of the record that a handle
names. Each refusal is then read from it, for all rows at once. -/

namespace Sys2Proof.Machine

/-! ### The checks up to the role (R181 steps 2 and 3) -/

section Taking
variable {s : State} {l : Link} {r : Request} {takes : Request → Bool} {body : List Byte → State → Reply}

/-- A row whose caller is in session runs what stands behind the session check. -/
theorem takeRequest_session {y : Reply} (h : s.asks l r) (ht : takes r = true) (hin : s.inSession l = true)
    (hbody : body r.payload s = needSession s l y) : takeRequest l s takes body = .next (y.finish l r) := by
  rw [takeRequest_asks h ht, hbody, needSession_pass hin]

/-- A row of the primary runs for the primary what stands behind the role check. -/
theorem takeRequest_primary {y : Reply} (h : s.asks l r) (ht : takes r = true) (hin : s.inSession l = true)
    (hprimary : s.sessions.primary = some l) (hbody : body r.payload s = needSession s l (needPrimary s l y)) :
    takeRequest l s takes body = .next (y.finish l r) := by
  rw [takeRequest_session h ht hin hbody, needPrimary_pass hprimary]

theorem takeRequest_denied {y : Reply} (h : s.asks l r) (ht : takes r = true) (hin : s.inSession l = true)
    (hprimary : s.sessions.primary ≠ some l) (hbody : body r.payload s = needSession s l (needPrimary s l y)) :
    takeRequest l s takes body = .next (s.refusing l r .denied) := by
  rw [takeRequest_session h ht hin hbody, needPrimary_fail hprimary, Reply.refused_finish]

/-- A well-formed request of the primary that a commit delays is BUSY while the commit is PENDING (step 7). -/
theorem takeRequest_busy {α : Type} {p : Option α} {y : α → Reply} (h : s.asks l r) (ht : takes r = true)
    (hcommands : s.commands l) (hpending : s.map.commit = .pending) (hsome : p.isSome = true)
    (hbody : body r.payload s =
      needSession s l (needPrimary s l (needPayload s p fun x => needIdleCommit s (y x)))) :
    takeRequest l s takes body = .next (s.refusing l r .busy) := by
  obtain ⟨x, rfl⟩ := Option.isSome_iff_exists.mp hsome
  rw [takeRequest_primary h ht hcommands.1 hcommands.2 hbody, needPayload_some, needIdleCommit_fail hpending,
    Reply.refused_finish]

end Taking

theorem primaryRow_denied {c : Instr} {l : Link} {takes : Request → Bool} {s : State} {r : Request}
    (hrow : requestRow c = some (l, takes)) (hprimary : primaryRow c = true) (h : s.asks l r) (ht : takes r = true)
    (hin : s.inSession l = true) (hnot : s.sessions.primary ≠ some l) : exec c s = .next (s.refusing l r .denied) := by
  cases c <;> cases hrow <;> cases hprimary
  case lampTest =>
    have hfalse : ¬(s.isPrimary l = true ∧ s.supply.level ≠ .critical) := by simp [State.isPrimary, hnot]
    exact (takeRequest_session h ht hin rfl).trans (by rw [if_neg hfalse, Reply.refused_finish])
  all_goals exact takeRequest_denied h ht hin hnot rfl

theorem lampTest_denied {l : Link} {s : State} {r : Request} (h : s.asks l r) (hcode : r.code = 0x57#8)
    (hin : s.inSession l = true) (hcritical : s.supply.level = .critical) :
    exec (.lampTest l) s = .next (s.refusing l r .denied) := by
  refine (takeRequest_session h (hasCode_of_eq hcode) hin rfl).trans ?_
  rw [if_neg fun c => c.2 hcritical, Reply.refused_finish]

theorem State.takeoverDenied_iff {s : State} {l : Link} : s.takeoverDenied l = true ↔
    (s.session l).state = .standby ∧ s.sessions.primary ≠ none ∧ s.sessions.permit ≠ some l := by
  simp [State.takeoverDenied, and_assoc, Option.isSome_iff_ne_none]

theorem takeover_denied {l : Link} {s : State} {r : Request} (h : s.asks l r) (hcode : r.code = 0x21#8)
    (hdenied : s.takeoverDenied l = true) : exec (.takeover l) s = .next (s.refusing l r .denied) := by
  have hin : s.inSession l = true := by
    rw [State.inSession, (State.takeoverDenied_iff.mp hdenied).1]
    rfl
  refine (takeRequest_session h (hasCode_of_eq hcode) hin rfl).trans ?_
  rw [if_pos hdenied, Reply.refused_finish]

theorem readMap_denied {l : Link} {s : State} {r : Request} {g : Byte} (h : s.asks l r) (hcode : r.code = 0x44#8)
    (hpayload : r.payload = [g, 1#8]) (hin : s.inSession l = true) (hnot : s.sessions.primary ≠ some l) :
    exec (.readMap l) s = .next (s.refusing l r .denied) := by
  have hstaged : selectsStaged r.payload = true ∧ s.isPrimary l = false :=
    ⟨selectsStaged_iff.mpr ⟨g, hpayload⟩, by simp [State.isPrimary, hnot]⟩
  refine (takeRequest_session h (hasCode_of_eq hcode) hin rfl).trans ?_
  rw [if_pos hstaged, Reply.refused_finish]

/-! ### The checks behind the role (R181 steps 4 to 6) -/

theorem State.resolve_eq_some_iff {s : State} {h : Handle} {q : Record} :
    s.table.resolve h = some q ↔ s.names h q := by
  constructor
  · intro e
    obtain ⟨hrecord, hgen, hpos⟩ := Table.resolve_eq_some e
    exact ⟨hpos, hgen, hrecord⟩
  · rintro ⟨hpos, hgen, hrecord⟩
    exact (if_pos ⟨hpos, hgen⟩).trans hrecord

theorem parseEmpty_isSome (b : List Byte) : (parseEmpty b).isSome = b.isEmpty := by
  cases b <;> rfl

/-- What a row does once session and role have passed: it checks the payload, then the record that the payload's handle
names, then its owner. -/
inductive RowChecks (c : Instr) (l : Link) (s : State) (r : Request) : Prop
  | mk {α : Type} (p : Option α) (k : α → Reply)
      (runs : exec c s = .next ((needPayload s p k).finish l r))
      (wellFormed : wellFormedFor c r.payload = p.isSome)
      (handle : ∀ h, namedHandle c r.payload = some h → ∃ x y, p = some x ∧ k x = needRecord s h y ∧
        (ownerRow c = true → ∀ q, q.owner ≠ some l → y q = .refused s .notOwner))

section Rows
variable {c : Instr} {l : Link} {s : State} {r : Request} {α : Type} {p : Option α}

/-- A row without a handle. -/
theorem RowChecks.of_payload {k : α → Reply} (runs : exec c s = .next ((needPayload s p k).finish l r))
    (wellFormed : wellFormedFor c r.payload = p.isSome) (handle : namedHandle c r.payload = none) :
    RowChecks c l s r :=
  .mk p k runs wellFormed fun h hh => by rw [handle] at hh; cases hh

/-- A row whose payload is empty. -/
theorem RowChecks.of_empty {k : Unit → Reply}
    (runs : exec c s = .next ((needPayload s (parseEmpty r.payload) k).finish l r))
    (wellFormed : wellFormedFor c r.payload = r.payload.isEmpty) (handle : namedHandle c r.payload = none) :
    RowChecks c l s r :=
  .of_payload runs (wellFormed.trans (parseEmpty_isSome _).symm) handle

/-- A row that names a record of any owner. -/
theorem RowChecks.of_record {f : α → Handle} {y : α → Record → Reply}
    (runs : exec c s = .next ((needPayload s p fun x => needRecord s (f x) (y x)).finish l r))
    (wellFormed : wellFormedFor c r.payload = p.isSome) (handle : namedHandle c r.payload = p.map f)
    (owner : ownerRow c = true → ∀ x q, q.owner ≠ some l → y x q = .refused s .notOwner) : RowChecks c l s r :=
  .mk p _ runs wellFormed fun h hh => by
    obtain ⟨x, hx, rfl⟩ := Option.map_eq_some_iff.mp (handle.symm.trans hh)
    exact ⟨x, y x, hx, rfl, fun ho => owner ho x⟩

/-- A row that names a record of the caller's own. -/
theorem RowChecks.of_owner {f : α → Handle} {y : α → Record → Reply}
    (runs : exec c s =
      .next ((needPayload s p fun x => needRecord s (f x) fun q => needOwner s q (some l) (y x q)).finish l r))
    (wellFormed : wellFormedFor c r.payload = p.isSome) (handle : namedHandle c r.payload = p.map f) :
    RowChecks c l s r :=
  .of_record runs wellFormed handle fun _ _ _ hq => needOwner_fail hq _

theorem RowChecks.badRequest (h : RowChecks c l s r) (hbad : wellFormedFor c r.payload = false) :
    exec c s = .next (s.refusing l r .badRequest) := by
  obtain ⟨p, k, runs, wellFormed, -⟩ := h
  have hnone : p = none := by simpa using wellFormed.symm.trans hbad
  rw [runs, hnone, needPayload_none, Reply.refused_finish]

theorem RowChecks.staleHandle (h : RowChecks c l s r) {hd : Handle} (hnamed : namedHandle c r.payload = some hd)
    (hstale : ∀ q, ¬s.names hd q) : exec c s = .next (s.refusing l r .staleHandle) := by
  obtain ⟨p, k, runs, -, handle⟩ := h
  obtain ⟨x, y, rfl, hk, -⟩ := handle hd hnamed
  have hnone : s.table.resolve hd = none :=
    Option.eq_none_iff_forall_ne_some.mpr fun q hq => hstale q (State.resolve_eq_some_iff.mp hq)
  rw [runs, needPayload_some, hk, needRecord_fail hnone, Reply.refused_finish]

theorem RowChecks.notOwner (h : RowChecks c l s r) {hd : Handle} (hnamed : namedHandle c r.payload = some hd)
    {q : Record} (hq : s.names hd q) (hrow : ownerRow c = true) (hother : q.owner ≠ some l) :
    exec c s = .next (s.refusing l r .notOwner) := by
  obtain ⟨p, k, runs, -, handle⟩ := h
  obtain ⟨x, y, rfl, hk, howner⟩ := handle hd hnamed
  rw [runs, needPayload_some, hk, needRecord_pass (State.resolve_eq_some_iff.mpr hq), howner hrow q hother,
    Reply.refused_finish]

end Rows

/-- The rows of R184, once session and role have passed. -/
theorem requestRow_checks {c : Instr} {l : Link} {takes : Request → Bool} {s : State} {r : Request}
    (hrow : requestRow c = some (l, takes)) (h : s.asks l r) (ht : takes r = true) (hknown : c ≠ .unknownRequest l)
    (hsession : c ≠ .attach l → s.inSession l = true) (hrole : RoleAdmits s c l r) : RowChecks c l s r := by
  obtain ⟨primary, lampTest, takeover, readMap⟩ := hrole
  cases c <;> cases hrow
  case unknownRequest => exact absurd rfl hknown
  case attach => exact .of_payload (takeRequest_asks h ht (attachRequest l)) rfl rfl
  case takeover =>
    have hpermitted : ¬s.takeoverDenied l = true := by
      rw [State.takeoverDenied_iff]
      rintro ⟨hstandby, hprimary, hpermit⟩
      rcases takeover rfl with e | e | e
      · rw [hstandby] at e; cases e
      · exact hprimary e
      · exact hpermit e
    exact .of_empty ((takeRequest_session h ht (hsession nofun) rfl).trans (by rw [if_neg hpermitted])) rfl rfl
  case lampTest =>
    have hpermitted : s.isPrimary l = true ∧ s.supply.level ≠ .critical :=
      ⟨by simp [State.isPrimary, primary rfl], lampTest rfl⟩
    exact .of_payload ((takeRequest_session h ht (hsession nofun) rfl).trans (by rw [if_pos hpermitted])) rfl rfl
  case readMap =>
    have hpermitted := readMap_permitted (readMap rfl)
    exact .of_payload ((takeRequest_session h ht (hsession nofun) rfl).trans (by rw [if_neg hpermitted])) rfl rfl
  case ping | collect | panelStatus => exact .of_empty (takeRequest_session h ht (hsession nofun) rfl) rfl rfl
  case detachWithdrawAll | detachLeave | setAttention | post | find | listGroup =>
    exact .of_payload (takeRequest_session h ht (hsession nofun) rfl) rfl rfl
  case query =>
    exact .of_record (f := id) (takeRequest_session h ht (hsession nofun) rfl) rfl Option.map_id_apply.symm nofun
  case clear | reassert | withdraw =>
    exact .of_owner (f := id) (takeRequest_session h ht (hsession nofun) rfl) rfl Option.map_id_apply.symm
  case amend => exact .of_owner (takeRequest_session h ht (hsession nofun) rfl) rfl rfl
  case yieldRole | silence | commitMap | abortMap | restart =>
    exact .of_empty (takeRequest_primary h ht (hsession nofun) (primary rfl) rfl) rfl rfl
  case retire =>
    exact .of_record (f := id) (takeRequest_primary h ht (hsession nofun) (primary rfl) rfl) rfl
      Option.map_id_apply.symm nofun
  case claimOrphan => exact .of_record (takeRequest_primary h ht (hsession nofun) (primary rfl) rfl) rfl rfl nofun
  all_goals exact .of_payload (takeRequest_primary h ht (hsession nofun) (primary rfl) rfl) rfl rfl

/-- Settles O5: the role's refusals row by row, BUSY, and the refusals behind the role check from `RowChecks`. -/
theorem roleAndBusyRefusals : Obligations.RoleAndBusyRefusals := by
  refine ⟨fun c l takes s r => primaryRow_denied, fun l s r h hcode hcommands => lampTest_denied h hcode hcommands.1,
    fun l s r h hcode hstandby hprimary hpermit =>
      takeover_denied h hcode (State.takeoverDenied_iff.mpr ⟨hstandby, hprimary, hpermit⟩),
    fun l s r g => readMap_denied, fun l s r h hcommands hpending => ⟨fun hcode hsome => ?_, fun hempty => ?_⟩,
    fun s h q => State.resolve_eq_some_iff, fun c l takes s r hrow h ht hknown hsession hrole => ?_⟩
  · exact takeRequest_busy h (hasCode_of_eq hcode) hcommands hpending hsome rfl
  · have hsome : (parseEmpty r.payload).isSome = true := by rw [hempty]; rfl
    exact ⟨fun hcode => takeRequest_busy h (hasCode_of_eq hcode) hcommands hpending hsome rfl,
      fun hcode => takeRequest_busy h (hasCode_of_eq hcode) hcommands hpending hsome rfl,
      fun hcode => takeRequest_busy h (hasCode_of_eq hcode) hcommands hpending hsome rfl⟩
  · have hchecks := requestRow_checks hrow h ht hknown hsession hrole
    exact ⟨hchecks.badRequest, fun hd hnamed =>
      ⟨hchecks.staleHandle hnamed, fun q hq hown hother => hchecks.notOwner hnamed hq hown hother⟩⟩

end Sys2Proof.Machine

/-! ## The annunciation sequences (R28–R43)

`State.deliver_spec` says what one event of R29 does. What a request or an expiry that delivers one adds to it is the
horn's re-decision and the answer; `Applied.redecided` and `Applied.settled` carry the event over both. -/

namespace Sys2Proof.Machine

/-- Settles O24: each cell of R29's table, by its column. -/
theorem annunciationTableHolds : Obligations.AnnunciationTableHolds := by
  refine ⟨⟨rfl, rfl, rfl⟩, fun l => ⟨?_, ?_, ?_, ?_⟩⟩
  · have hcell : ∀ ev : RecordEvent, ev = .clear ∨ ev = .expire → annunciate ev = clearing := by
      rintro _ (rfl | rfl) <;> rfl
    intro ev hev
    rw [hcell ev hev]
    refine ⟨rfl, fun hl => ⟨rfl, ?_, rfl, rfl⟩⟩
    cases l with
    | none => exact absurd rfl hl
    | ack => rfl
    | ackReset => rfl
  · refine ⟨rfl, fun hl => ⟨rfl, rfl, ?_, rfl⟩⟩
    cases l with
    | none => exact absurd rfl hl
    | ack => rfl
    | ackReset => rfl
  · intro st
    cases st <;> rfl
  · intro st
    cases st <;> rfl

/-! ### One event -/

/-- An event that moves a record writes its slot. -/
theorem State.eventSlot_moved {s : State} {i : SlotIx} {q : Record} (hq : s.record i = some q) {ev : RecordEvent}
    {st : Annunciation} (h : annunciate ev q.latch q.state = .moved st) (c : Cause) :
    s.eventSlot ev c i = { s.slot i with content := .live (q.moveTo ev st s.startIn) } := by
  unfold State.eventSlot
  rw [hq]
  simp only [h, lifetimeAfter_eq, Record.moveTo]

/-- Where an event's effects left the other blocks alone, so does the horn's re-decision, but for the horn. -/
theorem State.sameBut_redecided {s u : State} (h : u.held = s.held ∧ u.time = s.time ∧ u.map = s.map ∧
      u.panel = s.panel ∧ u.keys = s.keys ∧ u.supply = s.supply ∧ u.pending = s.pending ∧ u.horn = s.horn) :
    s.sameBut u.redecideHorn := by
  obtain ⟨held, time, map, panel, keys, supply, pending, horn⟩ := h
  have hafter := u.redecideHorn_hornAfter
  have henable := u.redecideHorn_spec.2.1
  unfold State.hornAfter at hafter
  rw [horn] at hafter henable
  exact ⟨by simpa, by simpa, by simpa, by simpa, by simpa, by simpa, by simpa, henable, hafter⟩

/-- An event of R29 delivered, and the horn re-decided. -/
theorem Applied.redecided {s : State} {i : SlotIx} {q : Record} (hq : s.record i = some q) (ev : RecordEvent)
    (c : Cause) : Applied s (s.deliver ev c i).redecideHorn ev c i q := by
  obtain ⟨hslot, harr, hlow, hsession, hroles⟩ := State.deliver_spec hq ev c
  refine ⟨fun j => ?_, ?_, ?_, fun m => ?_, ?_, State.sameBut_redecided (by simp)⟩
  · rw [surfacedSlot_congr ((State.redecideHorn_view _).visibleSlot _), ← hslot j]
    exact State.slot_congr (by simp) j
  · simpa using harr
  · simpa [lowAfterFreeing] using hlow
  · rw [← hsession m]
    exact State.session_congr (by simp) m
  · simpa [State.sameRoles] using hroles

/-- What is said of an event does not depend on the ports. -/
theorem Applied.answered {s t : State} {ev : RecordEvent} {c : Cause} {i : SlotIx} {q : Record}
    (h : Applied s t ev c i q) (p : PerLink Port) : Applied s { t with ports := p } ev c i q :=
  ⟨h.slots, h.arrival, h.low, h.sessions, h.roles, h.rest⟩

/-- An event of R29 that a request delivers, the horn re-decided and the request answered. -/
theorem Applied.settled {s : State} {i : SlotIx} {q : Record} (hq : s.record i = some q) (ev : RecordEvent) (c : Cause)
    (l : Link) (r : Request) (payload : List Byte) :
    Applied s ((s.deliver ev c i).settled l r payload) ev c i q :=
  (Applied.redecided hq ev c).answered _

/-- The outcome that CLEAR answers, by the state of a sound record (R42). -/
theorem clearOutcome_sound {q : Record} (h : q.Sound) : clearOutcome q =
    match q.state with
    | .steady => 1#8
    | .new => 2#8
    | .acked => if q.latch = .ack then 1#8 else 2#8
    | .clearedNew => 3#8
    | .awaitReset => 3#8 := by
  cases hstate : q.state <;> simp only [clearOutcome, annunciate, clearing, hstate]
  case acked =>
    cases hlatch : q.latch
    case none => rw [h.steady.mpr hlatch] at hstate; cases hstate
    all_goals rfl

/-- Settles O25: the event as `State.deliver_spec` has it, and the outcome by the record's state. -/
theorem clearDeliversEvent : Obligations.ClearDeliversEvent := by
  intro l s r i g q h hcode hpayload hin hresolve ho hsound outcome
  obtain ⟨hq, -, -⟩ := Table.resolve_eq_some hresolve
  have hexec : exec (.clear l) s = .next ((s.deliver .clear (.link l) i).settled l r [outcome]) := by
    refine (takeRequest_session h (hasCode_of_eq hcode) hin rfl).trans ?_
    rw [hpayload, parseHandle_bytes, needPayload_some, needRecord_pass hresolve, needOwner_pass ho,
      clearOutcome_sound hsound]
    exact congrArg _ (Reply.finish_settled ..)
  exact ⟨_, hexec, .settled hq .., State.settled_ports (by simp) ..⟩

/-- REASSERT is answered WRONG_STATE in STEADY and NEW alone, and moves its record to NEW elsewhere (R29). -/
theorem annunciate_reassert_eq (latch : Latch) (st : Annunciation) :
    annunciate .reassert latch st = if st = .steady ∨ st = .new then .wrongState else .moved .new := by
  cases st <;> rfl

theorem execReassert_owned {l : Link} {s : State} {r : Request} {i : SlotIx} {g : Byte} {q : Record} (h : s.asks l r)
    (hcode : r.code = codeReassert) (hpayload : r.payload = [byteOf i.val, g]) (hin : s.inSession l = true)
    (hresolve : s.table.resolve { slot := i, gen := g } = some q) (ho : q.owner = some l) :
    exec (.reassert l) s =
      .next (if q.state = .steady ∨ q.state = .new then s.refusing l r .wrongState
        else (s.deliver .reassert (.link l) i).settled l r []) := by
  refine (takeRequest_session h (hasCode_of_eq hcode) hin rfl).trans ?_
  rw [hpayload, parseHandle_bytes, needPayload_some, needRecord_pass hresolve, needOwner_pass ho,
    annunciate_reassert_eq]
  split
  · rw [if_pos rfl, Reply.refused_finish]
  · rw [if_neg (by simp), Reply.finish_settled]

/-- Surfacing leaves alone a record that is not silenced. -/
theorem surfacedSlot_of_sounding {s t : State} {g : Group} {j : SlotIx} {x : Slot} {q : Record}
    (h : x.content = .live q) (hq : q.silenced = false) : surfacedSlot s t g j x = x := by
  obtain ⟨gen, content⟩ := x
  subst h
  rcases surfacedSlot_same s t g j ⟨gen, .live q⟩ with e | ⟨r, hr, e⟩
  · exact e
  · cases hr
    rw [e, ← hq]

/-- Settles O26: the refusal by the state table, and the move with the record that it leaves. -/
theorem reassertRenews : Obligations.ReassertRenews := by
  intro l s r i g q h hcode hpayload hin hresolve ho
  obtain ⟨hq, -, -⟩ := Table.resolve_eq_some hresolve
  have hexec := execReassert_owned h hcode hpayload hin hresolve ho
  refine ⟨fun hstate => by rw [hexec, if_pos hstate], fun hsteady hnew => ?_⟩
  have hmoves : ¬(q.state = .steady ∨ q.state = .new) := not_or.mpr ⟨hsteady, hnew⟩
  rw [if_neg hmoves] at hexec
  have happlied := Applied.settled hq .reassert (.link l) l r []
  refine ⟨_, hexec, happlied, ?_, State.settled_ports (by simp) ..⟩
  have hevent : s.eventSlot .reassert (.link l) i = { s.slot i with
      content := .live { q with
        state := .new, silenced := false
        lifetime :=
          q.lifetime.map fun x => { x with remaining := x.period, startIn := s.startIn, due := false } } } := by
    rw [State.eventSlot_moved hq ((annunciate_reassert_eq ..).trans (if_neg hmoves))]
    rfl
  have hslot := happlied.slots i
  rw [if_pos rfl, hevent, surfacedSlot_of_sounding rfl rfl] at hslot
  exact State.record_eq_some.mpr (congrArg Slot.content hslot)

theorem Annunciation.lifetimeRuns_iff {st : Annunciation} :
    st.lifetimeRuns = true ↔ st = .steady ∨ st = .new ∨ st = .acked := by
  cases st <;> decide

/-- An EXPIRE is due where a lifetime that runs owes one (R38, R39). -/
theorem Record.expiryDue_iff {q : Record} :
    q.expiryDue = true ↔ (q.state = .steady ∨ q.state = .new ∨ q.state = .acked) ∧
      ∃ x, q.lifetime = some x ∧ x.due = true := by
  rw [Record.expiryDue, Bool.and_eq_true, Annunciation.lifetimeRuns_iff, Option.any_eq_true]

/-- Settles O42: a due EXPIRE is the event of `State.deliver_spec`, caused by the part. -/
theorem expireDeliversEvent : Obligations.ExpireDeliversEvent := by
  intro s i q x h hq hstate hx hdue
  have hexpires : q.expiryDue = true := Record.expiryDue_iff.mpr ⟨hstate, x, hx, hdue⟩
  have hexec : exec (.expire i) s = .next (s.deliver .expire .part i).redecideHorn := by
    have hslot : s.expireSlot i = (s.deliver .expire .part i).redecideHorn := by
      unfold State.expireSlot
      rw [hq]
      exact if_pos hexpires
    exact (takeInside_ready h (·.expireSlot i)).trans (congrArg _ hslot)
  exact ⟨_, hexec, .redecided hq .., by simp⟩

/-! ### A tick (R38, R39, R151) -/

theorem State.keepaliveDue_iff {s : State} {l : Link} :
    s.keepaliveDue l = true ↔ s.inSession l = true ∧
      ∃ k, (s.session l).keepalive = some k ∧ k.startIn = 0 ∧ k.count = 0 := by
  rw [State.keepaliveDue, Bool.and_eq_true]
  cases (s.session l).keepalive <;> simp [Keepalive.expired]

/-- Where no expiry is due none is taken before the tick (assumption 5). -/
theorem State.takeDueExpiries_of_none_due {s : State} (hrecords : ∀ i q, s.record i = some q → q.expiryDue = false)
    (hlinks : ∀ l, s.keepaliveDue l = false) : s.takeDueExpiries = s := by
  have hslot : ∀ i, s.expireSlot i = s := fun i => by
    unfold State.expireSlot
    cases hq : s.record i with
    | none => rfl
    | some q => simp [hrecords i q hq]
  have hslots : allSlots.foldl State.expireSlot s = s := List.foldl_fixed' hslot _
  simp [State.takeDueExpiries, hslots, State.expireKeepalive, hlinks]

theorem State.countTick_slot (s : State) (i : SlotIx) : s.countTick.slot i = (s.slot i).tick :=
  get_mapVector Slot.tick s.table.slots i

theorem State.countTick_session (s : State) (m : Link) : s.countTick.session m = (s.session m).tick := by
  simp only [State.countTick, State.session_setSession]
  cases m <;> rfl

theorem Lifetime.tick_eq : Lifetime.tick = fun x =>
    if x.startIn ≠ 0 then { x with startIn := x.startIn - 1 }
    else if 1 < x.remaining then { x with remaining := x.remaining - 1 }
    else { x with due := true } :=
  rfl

theorem Keepalive.tick_eq : Keepalive.tick = fun k =>
    if k.startIn = 0 then { k with count := k.count - 1 } else { k with startIn := k.startIn - 1 } := by
  funext k
  unfold Keepalive.tick
  split <;> simp_all

/-- A tick counts in a slot whose record's lifetime runs, and leaves any other alone (R38, R39). -/
theorem Slot.tick_live {x : Slot} {q : Record} (h : x.content = .live q) : x.tick =
    if q.state = .steady ∨ q.state = .new ∨ q.state = .acked then
      { x with content := .live { q with lifetime := q.lifetime.map Lifetime.tick } }
    else x := by
  obtain ⟨gen, content⟩ := x
  subst h
  simp only [Slot.tick, Record.tick, ← Annunciation.lifetimeRuns_iff]
  split <;> rfl

theorem Slot.tick_dead {x : Slot} (h : ∀ q, x.content ≠ .live q) : x.tick = x := by
  unfold Slot.tick
  split
  · next q hq => exact absurd hq (h q)
  · rfl

theorem State.countTick_time (s : State) : s.countTick.time =
    { s.time with clock := max s.time.clock (100000 * (s.time.ticks + 1)), ticks := s.time.ticks + 1 } := by
  simp only [State.countTick, State.setSession_time, State.setTable_time, State.setTime_time, State.reach_time,
    tickMicros]

/-- Settles O41: with no expiry due a tick is `State.countTick`, read slot by slot and link by link. -/
theorem tickCountsDown : Obligations.TickCountsDown := by
  refine ⟨fun s => by unfold State.startIn tickMicros; rfl, fun q => Record.expiryDue_iff,
    fun s l => State.keepaliveDue_iff, fun s h hrecords hlinks => ?_⟩
  have hexec : exec .tick s = .next s.countTick := by
    refine (takeInside_ready h (·.takeDueExpiries.countTick)).trans ?_
    rw [State.takeDueExpiries_of_none_due hrecords hlinks]
  refine ⟨_, hexec, fun i => ?_, fun m => ?_, s.countTick_time, rfl, rfl, ⟨rfl, rfl, rfl, rfl⟩, rfl, rfl, rfl, rfl, rfl,
    rfl, rfl, rfl⟩
  · rw [State.countTick_slot]
    split
    · next q hq => rw [Slot.tick_live hq, Lifetime.tick_eq]
    · next hne => exact Slot.tick_dead fun q hq => hne q hq
  · rw [State.countTick_session, ← Keepalive.tick_eq]
    rfl

end Sys2Proof.Machine

/-! ## What stays visible when a record goes down in its claim list (R50–R56)

The head of a group is the claimant that comes before every other (`Table.head_eq_some_iff`), so a record that leaves
its claim list, or ranks lower in it than before, hides no other record (`Recedes.stays`). -/

namespace Sys2Proof.Machine

/-- The first three comparisons of R51 as one number: class, then state rank, then priority, the highest first. -/
def Record.rank (r : Record) : Nat := 64 * classRank r.cls + 16 * stateRank r.state + (15 - r.priority.val)

theorem outranks_iff {x y : Record} : outranks x y = true ↔ x.rank < y.rank := by
  have hstate : ∀ st, stateRank st ≤ 3 := by intro st; cases st <;> decide
  have hx := hstate x.state
  have hy := hstate y.state
  unfold outranks Record.rank
  split
  · rw [decide_eq_true_iff]
    omega
  · split
    · rw [decide_eq_true_iff]
      omega
    · rw [decide_eq_true_iff, Fin.lt_def]
      omega

/-- R51 on two records: by rank, then by arrival. -/
theorem Table.comesBefore_iff {t : Table} {i j : SlotIx} {x y : Record} (hx : t.record i = some x)
    (hy : t.record j = some y) : t.comesBefore i j = true ↔
      x.rank < y.rank ∨ x.rank = y.rank ∧ t.arrival.idxOf i ≤ t.arrival.idxOf j := by
  unfold Table.comesBefore
  rw [hx, hy]
  simp only [Bool.or_eq_true, Bool.and_eq_true, Bool.not_eq_true', ← Bool.not_eq_true, outranks_iff, decide_eq_true_iff]
  omega

theorem Table.mem_claimants {t : Table} {g : Group} {i : SlotIx} :
    i ∈ t.claimants g ↔ i ∈ t.arrival ∧ ∃ r, t.record i = some r ∧ r.group = g := by
  unfold Table.claimants
  rw [List.mem_filter]
  cases t.record i <;> simp

/-- The first member of a sorted list stands before every member, where the order is total and transitive on them. -/
theorem head_insertionSort {α : Type} {before : α → α → Prop} [DecidableRel before] {xs : List α}
    (total : ∀ x ∈ xs, ∀ y ∈ xs, before x y ∨ before y x)
    (trans : ∀ x ∈ xs, ∀ y ∈ xs, ∀ z ∈ xs, before x y → before y z → before x z) :
    ∀ x, (xs.insertionSort before).head? = some x → ∀ y ∈ xs, before x y := by
  induction xs with
  | nil => simp
  | cons a xs ih =>
    have htail := ih (fun x hx y hy => total x (.tail _ hx) y (.tail _ hy))
      fun x hx y hy z hz => trans x (.tail _ hx) y (.tail _ hy) z (.tail _ hz)
    have hself : before a a := (total a (.head _) a (.head _)).elim id id
    intro x hx
    rw [List.insertionSort_cons] at hx
    cases hsort : xs.insertionSort before with
    | nil =>
      have hnil : xs = [] := by
        have := List.length_insertionSort before xs
        rw [hsort] at this
        exact List.length_eq_zero_iff.mp this.symm
      subst hnil
      rw [hsort] at hx
      cases hx
      simpa using hself
    | cons b bs =>
      have hb : b ∈ xs := (List.perm_insertionSort before xs).mem_iff.mp (by simp [hsort])
      have hbefore := htail b (by simp [hsort])
      rw [hsort, List.orderedInsert_cons] at hx
      split at hx
      · next hab =>
        cases hx
        exact List.forall_mem_cons.mpr
          ⟨hself, fun y hy => trans a (.head _) b (.tail _ hb) y (.tail _ hy) hab (hbefore y hy)⟩
      · next hab =>
        cases hx
        exact List.forall_mem_cons.mpr ⟨(total a (.head _) x (.tail _ hb)).resolve_left hab, hbefore⟩

/-- The head of a group is the claimant that comes before every other (R53). -/
theorem Table.head_eq_some_iff {t : Table} {g : Group} {j : SlotIx} :
    t.head g = some j ↔ j ∈ t.claimants g ∧ ∀ k ∈ t.claimants g, t.comesBefore j k = true := by
  have hfirst : ∀ {i}, t.head g = some i → i ∈ t.claimants g ∧ ∀ k ∈ t.claimants g, t.comesBefore i k = true := by
    intro i hi
    refine ⟨(List.perm_insertionSort _ _).mem_iff.mp (List.mem_of_mem_head? hi), head_insertionSort ?_ ?_ i hi⟩
    · intro a ha b hb
      obtain ⟨-, x, hx, -⟩ := Table.mem_claimants.mp ha
      obtain ⟨-, y, hy, -⟩ := Table.mem_claimants.mp hb
      rw [Table.comesBefore_iff hx hy, Table.comesBefore_iff hy hx]
      omega
    · intro a ha b hb c hc
      obtain ⟨-, x, hx, -⟩ := Table.mem_claimants.mp ha
      obtain ⟨-, y, hy, -⟩ := Table.mem_claimants.mp hb
      obtain ⟨-, z, hz, -⟩ := Table.mem_claimants.mp hc
      rw [Table.comesBefore_iff hx hy, Table.comesBefore_iff hy hz, Table.comesBefore_iff hx hz]
      omega
  refine ⟨hfirst, fun ⟨hj, hbefore⟩ => ?_⟩
  cases hhead : t.head g with
  | none =>
    have hnil : t.claimants g = [] := by
      have hlist : t.claimList g = [] := List.head?_eq_none_iff.mp hhead
      have hperm : (t.claimList g).Perm (t.claimants g) := List.perm_insertionSort _ _
      rw [hlist] at hperm
      exact hperm.nil_eq.symm
    rw [hnil] at hj
    cases hj
  | some i =>
    obtain ⟨hi, hibefore⟩ := hfirst hhead
    obtain ⟨himem, x, hx, -⟩ := Table.mem_claimants.mp hi
    obtain ⟨-, y, hy, -⟩ := Table.mem_claimants.mp hj
    have hij := (Table.comesBefore_iff hx hy).mp (hibefore j hj)
    have hji := (Table.comesBefore_iff hy hx).mp (hbefore i hi)
    rw [(List.idxOf_inj himem).mp (by omega : t.arrival.idxOf i = t.arrival.idxOf j)]

/-! ### The visible record of a group (R55, R56) -/

/-- What a record in slot `j` needs to be visible in its group (R56). -/
theorem State.visibleSlot_eq_some_iff {s : State} {g : Group} {j : SlotIx} :
    s.visibleSlot g = some j ↔ s.table.head g = some j ∧ ∃ r, s.record j = some r ∧ 1 ≤ (s.entry g).points.length ∧
      (s.entry g).driven r.glyph ≠ 0#8 ∧ (s.supply.shedding && shedAt s.supply.level (some r.cls)) = false := by
  have hshed : ∀ {i r}, s.table.head g = some i → s.record i = some r →
      s.shed g = (s.supply.shedding && shedAt s.supply.level (some r.cls)) := by
    intro i r hi hr
    simp [State.shed, State.headClass, hi, hr]
  unfold State.visibleSlot
  cases hhead : s.table.head g with
  | none => simp
  | some i =>
    dsimp only
    cases hr : s.record i with
    | none =>
      simp only [Option.some.injEq]
      refine iff_of_false (by simp) ?_
      rintro ⟨rfl, r, hr', -⟩
      rw [hr] at hr'
      cases hr'
    | some r =>
      simp only [hshed hhead hr, Option.ite_none_right_eq_some, Option.some.injEq]
      constructor
      · rintro ⟨hshown, rfl⟩
        exact ⟨rfl, r, hr, hshown⟩
      · rintro ⟨rfl, q, hq, hshown⟩
        rw [hr] at hq
        cases hq
        exact ⟨hshown, rfl⟩

/-- A visible record stays visible where it stands as it was and every claimant of its group is one it already came
before, and still does. -/
theorem State.visibleSlot_kept {s t : State} {g : Group} {j : SlotIx} (hv : s.visibleSlot g = some j)
    (harrival : j ∈ t.table.arrival) (hshown : (t.record j).map Record.shown = (s.record j).map Record.shown)
    (hbefore : ∀ k ∈ t.table.claimants g, k ∈ s.table.claimants g ∧
      (s.table.comesBefore j k = true → t.table.comesBefore j k = true))
    (hactive : t.map.active = s.map.active) (hsupply : t.supply = s.supply) : t.visibleSlot g = some j := by
  obtain ⟨hhead, q, hq, hpoints, hglyph, hshed⟩ := State.visibleSlot_eq_some_iff.mp hv
  obtain ⟨hclaims, hfirst⟩ := Table.head_eq_some_iff.mp hhead
  obtain ⟨-, q', hq', hgroup⟩ := Table.mem_claimants.mp hclaims
  cases hq.symm.trans hq'
  rw [hq] at hshown
  obtain ⟨r, hr, hrq⟩ := Option.map_eq_some_iff.mp hshown
  simp only [Record.shown, Prod.mk.injEq] at hrq
  obtain ⟨egroup, ecls, -, -, eglyph⟩ := hrq
  have hentry : t.entry g = s.entry g := by rw [State.entry, hactive, State.entry]
  refine State.visibleSlot_eq_some_iff.mpr ⟨Table.head_eq_some_iff.mpr ⟨?_, fun k hk => ?_⟩, r, hr, ?_⟩
  · exact Table.mem_claimants.mpr ⟨harrival, r, hr, egroup.trans hgroup⟩
  · exact (hbefore k hk).2 (hfirst k (hbefore k hk).1)
  · rw [hentry, hsupply, eglyph, ecls]
    exact ⟨hpoints, hglyph, hshed⟩

/-! ### A record that goes down in its claim list -/

/-- The members that a list keeps stay in their order. -/
theorem idxOf_filter_le {α : Type} [DecidableEq α] {p : α → Bool} {a b : α} (ha : p a = true) (hb : p b = true) :
    ∀ {xs : List α}, a ∈ xs → b ∈ xs → ((xs.filter p).idxOf a ≤ (xs.filter p).idxOf b ↔ xs.idxOf a ≤ xs.idxOf b)
  | x :: xs, hax, hbx => by
    by_cases hxa : x = a
    · subst hxa
      simp [ha]
    · by_cases hxb : x = b
      · subst hxb
        simp [hb, List.idxOf_cons_ne _ hxa]
      · have ih := idxOf_filter_le ha hb (List.mem_of_ne_of_mem (Ne.symm hxa) hax)
          (List.mem_of_ne_of_mem (Ne.symm hxb) hbx)
        cases hx : p x <;>
          simp [hx, List.idxOf_cons_ne _ hxa, List.idxOf_cons_ne _ hxb, ih]

/-- From `s` to `t` the record in slot `i` leaves the arrival order or ranks no higher than it did, in its own group,
and nothing that the Resolver reads of any other slot changes. -/
structure Recedes (s t : State) (i : SlotIx) : Prop where
  arrival : t.table.arrival = s.table.arrival ∨ t.table.arrival = s.table.arrival.filter (· ≠ i)
  others : ∀ j, j ≠ i → (t.record j).map Record.shown = (s.record j).map Record.shown
  receding : ∀ r, t.record i = some r → ∃ q, s.record i = some q ∧ r.group = q.group ∧ q.rank ≤ r.rank
  active : t.map.active = s.map.active
  supply : t.supply = s.supply

section Recedes
variable {s t : State} {i : SlotIx}

theorem Recedes.mem_arrival (h : Recedes s t i) {j : SlotIx} (hj : j ≠ i) :
    j ∈ t.table.arrival ↔ j ∈ s.table.arrival := by
  rcases h.arrival with e | e <;> rw [e]
  simp [List.mem_filter, hj]

theorem Recedes.mem_of_mem_arrival (h : Recedes s t i) {j : SlotIx} (hj : j ∈ t.table.arrival) :
    j ∈ s.table.arrival := by
  rcases h.arrival with e | e <;> rw [e] at hj
  · exact hj
  · exact List.mem_of_mem_filter hj

/-- Arrival order between slots that keep their place. -/
theorem Recedes.idxOf_le (h : Recedes s t i) {j k : SlotIx} (hj : j ∈ t.table.arrival) (hk : k ∈ t.table.arrival) :
    t.table.arrival.idxOf j ≤ t.table.arrival.idxOf k ↔ s.table.arrival.idxOf j ≤ s.table.arrival.idxOf k := by
  rcases h.arrival with e | e
  · rw [e]
  · rw [e] at hj hk ⊢
    obtain ⟨hjs, hji⟩ := List.mem_filter.mp hj
    obtain ⟨hks, hki⟩ := List.mem_filter.mp hk
    exact idxOf_filter_le (p := fun x => decide (x ≠ i)) hji hki hjs hks

/-- Another record has the group and the rank it had. -/
theorem Recedes.other_record (h : Recedes s t i) {j : SlotIx} (hj : j ≠ i) {r : Record} (hr : t.record j = some r) :
    ∃ q, s.record j = some q ∧ r.group = q.group ∧ q.rank = r.rank := by
  have hshown := h.others j hj
  rw [hr] at hshown
  obtain ⟨q, hq, e⟩ := Option.map_eq_some_iff.mp hshown.symm
  simp only [Record.shown, Prod.mk.injEq] at e
  obtain ⟨egroup, ecls, estate, epriority, -⟩ := e
  exact ⟨q, hq, egroup.symm, by rw [Record.rank, Record.rank, ecls, estate, epriority]⟩

/-- Any record has the group it had, and ranks no higher. -/
theorem Recedes.record (h : Recedes s t i) {j : SlotIx} {r : Record} (hr : t.record j = some r) :
    ∃ q, s.record j = some q ∧ r.group = q.group ∧ q.rank ≤ r.rank := by
  by_cases hj : j = i
  · subst hj
    exact h.receding r hr
  · obtain ⟨q, hq, egroup, erank⟩ := h.other_record hj hr
    exact ⟨q, hq, egroup, erank.le⟩

/-- No other record comes to be hidden by a record that recedes. -/
theorem Recedes.stays (h : Recedes s t i) {g : Group} {j : SlotIx} (hj : j ≠ i) (hv : s.visibleSlot g = some j) :
    t.visibleSlot g = some j := by
  obtain ⟨q, hq, -⟩ := State.visibleSlot_record hv
  have hjs : j ∈ s.table.arrival :=
    (Table.mem_claimants.mp (Table.head_eq_some_iff.mp (State.visibleSlot_eq_some_iff.mp hv).1).1).1
  have hjt := (h.mem_arrival hj).mpr hjs
  refine State.visibleSlot_kept hv hjt (h.others j hj) (fun k hk => ?_) h.active h.supply
  obtain ⟨hkt, y, hy, hgroup⟩ := Table.mem_claimants.mp hk
  obtain ⟨y', hy', egroup, erank⟩ := h.record hy
  refine ⟨Table.mem_claimants.mpr ⟨h.mem_of_mem_arrival hkt, y', hy', egroup.symm.trans hgroup⟩, fun hbefore => ?_⟩
  obtain ⟨r, hr, -⟩ : ∃ r, t.record j = some r ∧ r.shown = q.shown :=
    Option.map_eq_some_iff.mp ((h.others j hj).trans (by rw [hq]; rfl))
  obtain ⟨q', hq', -, eqrank⟩ := h.other_record hj hr
  cases hq.symm.trans hq'
  rw [Table.comesBefore_iff hr hy, h.idxOf_le hjt hkt]
  rw [Table.comesBefore_iff hq hy'] at hbefore
  omega

/-- In a group that the receding record does not claim no other record becomes visible. -/
theorem Recedes.visibleSlot_other (h : Recedes s t i) {p : Record} (hp : s.record i = some p) {g : Group}
    (hg : p.group ≠ g) {j : SlotIx} (hv : t.visibleSlot g = some j) : s.visibleSlot g = some j := by
  obtain ⟨r, hr, hrg⟩ := State.visibleSlot_record hv
  obtain ⟨q, hq, egroup, -⟩ := h.record hr
  have hj : j ≠ i := by
    rintro rfl
    cases hp.symm.trans hq
    exact hg (egroup.symm.trans hrg)
  have hjt : j ∈ t.table.arrival :=
    (Table.mem_claimants.mp (Table.head_eq_some_iff.mp (State.visibleSlot_eq_some_iff.mp hv).1).1).1
  refine State.visibleSlot_kept hv ((h.mem_arrival hj).mp hjt) (h.others j hj).symm (fun k hk => ?_) h.active.symm
    h.supply.symm
  obtain ⟨hks, y, hy, hgroup⟩ := Table.mem_claimants.mp hk
  have hki : k ≠ i := by
    rintro rfl
    cases hp.symm.trans hy
    exact hg hgroup
  have hkt := (h.mem_arrival hki).mpr hks
  obtain ⟨z, hz, -⟩ : ∃ z, t.record k = some z ∧ z.shown = y.shown :=
    Option.map_eq_some_iff.mp ((h.others k hki).trans (by rw [show s.record k = some y from hy]; rfl))
  obtain ⟨y', hy', eygroup, eyrank⟩ := h.other_record hki hz
  cases hy.symm.trans hy'
  refine ⟨Table.mem_claimants.mpr ⟨hkt, z, hz, eygroup.trans hgroup⟩, fun hbefore => ?_⟩
  obtain ⟨q', hq', -, eqrank⟩ := h.other_record hj hr
  rw [Table.comesBefore_iff hq' hy, ← h.idxOf_le hjt hkt]
  rw [Table.comesBefore_iff hr hz] at hbefore
  omega

end Recedes

end Sys2Proof.Machine

/-! ## ACK and RESET delivered to several records in turn (R28, R44–R47)

Only a record's own ACK or RESET, or its surfacing, changes it, and neither event raises a record in its claim list. So
while several records take such an event in turn, what the event makes of each is decided by the state before the first
of them, but for the silenced flag of records that surface on the way. -/

namespace Sys2Proof.Machine

/-! ### What ACK and RESET do to one record -/

/-- The events that ACKNOWLEDGE, REMOTE_RESET and the operator's keys deliver. -/
def RecordEvent.isAnswer (ev : RecordEvent) : Prop := ev = .ack ∨ ev = .reset

theorem State.answersTo_iff {s : State} {ev : RecordEvent} {i : SlotIx} : s.answersTo ev i = true ↔
    ∃ q, s.record i = some q ∧
      (annunciate ev q.latch q.state = .retired ∨ ∃ st, annunciate ev q.latch q.state = .moved st) := by
  unfold State.answersTo
  cases s.record i with
  | none => simp
  | some q => cases h : annunciate ev q.latch q.state <;> simp [h]

/-- Where no record answers to an event it changes nothing. -/
theorem State.not_answersTo {s : State} {ev : RecordEvent} {i : SlotIx} (h : s.answersTo ev i = false) (c : Cause) :
    s.deliver ev c i = s ∧ s.eventSlot ev c i = s.slot i ∧ s.retires ev i = false ∧
      ∀ m, s.eventChanged ev c i m = (s.session m).changed := by
  unfold State.deliver State.eventSlot State.retires State.eventChanged
  unfold State.answersTo at h
  cases hq : s.record i with
  | none => simp
  | some q =>
    rw [hq] at h
    cases heff : annunciate ev q.latch q.state <;> simp [heff] at h ⊢

/-- A record that ACK or RESET moves is unacknowledged no more, and ranks no higher (R29, R51). -/
theorem annunciate_answer_moved {ev : RecordEvent} (hev : ev.isAnswer) {latch : Latch} {a b : Annunciation}
    (h : annunciate ev latch a = .moved b) : b.unacknowledged = false ∧ stateRank a ≤ stateRank b := by
  rcases hev with rfl | rfl
  · cases a <;> simp only [annunciate, acknowledging] at h
    case new => cases h; decide
    case clearedNew => split at h <;> cases h; decide
    all_goals cases h
  · cases a <;> cases h

theorem State.eventSlot_retired {s : State} {i : SlotIx} {q : Record} (hq : s.record i = some q) {ev : RecordEvent}
    (h : annunciate ev q.latch q.state = .retired) (c : Cause) : s.eventSlot ev c i = s.retiredSlot c ev.reason i := by
  unfold State.eventSlot
  rw [hq]
  simp only [h]

/-- No record stands in a retired slot. -/
theorem State.retiredSlot_dead {s : State} {i : SlotIx} {q : Record} (hq : s.record i = some q) (c : Cause) (v : Reason)
    (r : Record) : (s.retiredSlot c v i).content ≠ .live r := by
  unfold State.retiredSlot
  rw [hq]
  dsimp only
  split
  · exact nofun
  · split <;> exact nofun

/-- What ACK or RESET leaves LIVE of a record that answers to it: the record moved, in its group, acknowledged. -/
theorem State.eventSlot_live {s : State} {ev : RecordEvent} (hev : ev.isAnswer) {c : Cause} {i : SlotIx}
    (h : s.answersTo ev i = true) {r : Record} (hr : (s.eventSlot ev c i).content = .live r) :
    r.state.unacknowledged = false ∧ ∃ q, s.record i = some q ∧ r.group = q.group ∧ q.rank ≤ r.rank := by
  obtain ⟨q, hq, heff | ⟨st, heff⟩⟩ := State.answersTo_iff.mp h
  · rw [State.eventSlot_retired hq heff] at hr
    exact absurd hr (State.retiredSlot_dead hq c ev.reason r)
  · rw [State.eventSlot_moved hq heff] at hr
    cases hr
    obtain ⟨hack, hrank⟩ := annunciate_answer_moved hev heff
    refine ⟨hack, q, hq, rfl, ?_⟩
    simp only [Record.rank, Record.moveTo]
    omega

/-- Surfacing leaves alone a slot without an unacknowledged record. -/
theorem surfacedSlot_of_acknowledged {s t : State} {g : Group} {j : SlotIx} {x : Slot}
    (h : ∀ r, x.content = .live r → r.state.unacknowledged = false) : surfacedSlot s t g j x = x := by
  unfold surfacedSlot
  split
  · next r hr => rw [if_neg (by simp [h r hr])]
  · rfl

/-- A slot that at most surfaces shows the Resolver what it showed. -/
theorem surfacedSlot_shown (s t : State) (g : Group) (j : SlotIx) {u v : State}
    (h : v.slot j = surfacedSlot s t g j (u.slot j)) :
    (v.record j).map Record.shown = (u.record j).map Record.shown := by
  rcases surfacedSlot_same s t g j (u.slot j) with e | ⟨r, hr, e⟩
  · rw [State.record_of_slot (h.trans e)]
  · rw [State.record_eq_some.mpr hr, State.record_eq_some.mpr (congrArg Slot.content (h.trans e))]
    rfl

/-- ACK or RESET delivered to a record makes it recede (R29, R51). -/
theorem State.deliver_recedes {s : State} {ev : RecordEvent} (hev : ev.isAnswer) (c : Cause) {i : SlotIx}
    (h : s.answersTo ev i = true) : Recedes s (s.deliver ev c i) i := by
  obtain ⟨p, hp, -⟩ := State.answersTo_iff.mp h
  obtain ⟨hslot, harr, -⟩ := State.deliver_spec hp ev c
  have hreassert : ev ≠ .reassert := by rcases hev with rfl | rfl <;> exact nofun
  refine ⟨?_, fun j hj => ?_, fun r hr => ?_, by simp, by simp⟩
  · rw [harr, if_neg (fun e : ev = .reassert ∧ _ => hreassert e.1)]
    split
    · exact .inr rfl
    · exact .inl rfl
  · have hother := hslot j
    rw [if_neg hj] at hother
    exact surfacedSlot_shown _ _ _ _ hother
  · have hself := hslot i
    rw [if_pos rfl, surfacedSlot_of_acknowledged fun q hq => (State.eventSlot_live hev h hq).1] at hself
    exact (State.eventSlot_live hev h ((congrArg Slot.content hself).symm.trans (State.record_eq_some.mp hr))).2

/-! ### What does not depend on the silenced flag -/

section Surfaced
variable {s u : State} {i : SlotIx}

/-- Slots that differ in a silenced flag alone hold records that do. -/
theorem Slot.sameButSurfaced.record (h : (s.slot i).sameButSurfaced (u.slot i)) {p : Record}
    (hp : s.record i = some p) : ∃ b, u.record i = some { p with silenced := b } := by
  rcases h with e | ⟨r, hr, e⟩
  · exact ⟨p.silenced, (State.record_of_slot e).trans hp⟩
  · cases Content.live.inj (hr.symm.trans (State.record_eq_some.mp hp))
    exact ⟨false, State.record_eq_some.mpr (congrArg Slot.content e)⟩

theorem Slot.sameButSurfaced.answersTo (h : (s.slot i).sameButSurfaced (u.slot i)) (ev : RecordEvent) :
    u.answersTo ev i = s.answersTo ev i := by
  unfold State.answersTo
  cases hp : s.record i with
  | some p =>
    obtain ⟨b, hu⟩ := h.record hp
    rw [hu]
  | none =>
    rcases h with e | ⟨r, hr, -⟩
    · rw [State.record_of_slot e, hp]
    · rw [State.record_eq_some.mpr hr] at hp
      cases hp

theorem Slot.sameButSurfaced.retires (h : (s.slot i).sameButSurfaced (u.slot i)) {p : Record}
    (hp : s.record i = some p) (ev : RecordEvent) : u.retires ev i = s.retires ev i := by
  obtain ⟨b, hu⟩ := h.record hp
  simp only [State.retires, hp, hu]

/-- Whether an event puts its slot into a changed set, or takes it out. -/
theorem Slot.sameButSurfaced.mem_eventChanged (h : (s.slot i).sameButSurfaced (u.slot i)) {p : Record}
    (hp : s.record i = some p) {m : Link} (hm : i ∈ (u.session m).changed ↔ i ∈ (s.session m).changed)
    (ev : RecordEvent) (c : Cause) : i ∈ u.eventChanged ev c i m ↔ i ∈ s.eventChanged ev c i m := by
  obtain ⟨b, hu⟩ := h.record hp
  have hunset : i ∉ (s.session m).changed.filter (· ≠ i) ∧ i ∉ (u.session m).changed.filter (· ≠ i) := by simp
  unfold State.eventChanged State.retiredChanged
  rw [hp, hu]
  have hfreed : ({ p with silenced := b } : Record).freedBy c = p.freedBy c := rfl
  dsimp only
  rw [hfreed]
  cases annunciate ev p.latch p.state <;> dsimp only
  case retired =>
    split
    · exact iff_of_false hunset.2 hunset.1
    · split
      · simp only [mem_joinSlot, hm]
      · exact hm
  case moved =>
    split
    · simp only [mem_joinSlot, hm]
    · exact hm
  all_goals exact hm

/-- An event puts no slot but its own into a changed set, and takes no other out. -/
theorem State.mem_eventChanged_other {j : SlotIx} (hj : j ≠ i) {ev : RecordEvent} {c : Cause} {m : Link} :
    j ∈ s.eventChanged ev c i m ↔ j ∈ (s.session m).changed := by
  unfold State.eventChanged State.retiredChanged
  repeat' split
  all_goals simp [mem_joinSlot, hj]

theorem State.startIn_congr (h : u.time = s.time) : u.startIn = s.startIn := by
  rw [State.startIn, h, State.startIn]

/-- Of a slot that stands an event makes the same. -/
theorem State.eventSlot_congr (h : u.slot i = s.slot i) (htime : u.time = s.time) (ev : RecordEvent) (c : Cause) :
    u.eventSlot ev c i = s.eventSlot ev c i := by
  simp only [State.eventSlot, State.retiredSlot, State.record_of_slot h, h, State.startIn_congr htime]

/-- An event makes the same of a slot, but for the silenced flag of the record it may leave there. -/
theorem Slot.sameButSurfaced.eventSlot (h : (s.slot i).sameButSurfaced (u.slot i)) (htime : u.time = s.time)
    {ev : RecordEvent} (hans : s.answersTo ev i = true) (c : Cause) :
    (s.eventSlot ev c i).sameButSurfaced (u.eventSlot ev c i) := by
  rcases h with e | ⟨p, hslot, e⟩
  · exact .inl (State.eventSlot_congr e htime ev c)
  · have hp : s.record i = some p := State.record_eq_some.mpr hslot
    have hu : u.record i = some { p with silenced := false } := State.record_eq_some.mpr (congrArg Slot.content e)
    obtain ⟨p', hp', heff⟩ := State.answersTo_iff.mp hans
    cases hp.symm.trans hp'
    rcases heff with heff | ⟨st, heff⟩
    · left
      rw [State.eventSlot_retired hp heff, State.eventSlot_retired hu heff]
      simp only [State.retiredSlot, hp, hu, e]
      rfl
    · right
      rw [State.eventSlot_moved hp heff, State.eventSlot_moved hu heff, State.startIn_congr htime, e]
      refine ⟨_, rfl, ?_⟩
      simp [Record.moveTo]

end Surfaced

/-! ### Several records in turn -/

/-- What an event delivered to each slot of `touched` makes of a slot, surfacing aside. -/
def State.eventSlots (s : State) (ev : RecordEvent) (c : Cause) (touched : List SlotIx) (j : SlotIx) : Slot :=
  if j ∈ touched then s.eventSlot ev c j else s.slot j

theorem State.surfacedInTurn_dead {s t : State} {touched : List SlotIx} {j : SlotIx} {x : Slot}
    (hx : ∀ r, x.content ≠ .live r) : s.surfacedInTurn t touched j x ↔ t.slot j = x := by
  unfold State.surfacedInTurn
  split
  · next r q hr hq => exact absurd hr (hx r)
  · rfl

theorem State.surfacedInTurn_live {s t : State} {touched : List SlotIx} {j : SlotIx} {x : Slot} {r q : Record}
    (hx : x.content = .live r) (hq : s.record j = some q) : s.surfacedInTurn t touched j x ↔
      (t.slot j = x ∨ t.slot j = { x with content := .live { r with silenced := false } }) ∧
      (t.slot j ≠ x → q.state.unacknowledged = true ∧ s.visibleSlot q.group ≠ some j ∧
        ∃ i ∈ touched, ∃ p, s.record i = some p ∧ p.group = q.group) ∧
      (t.visibleSlot r.group = some j → s.visibleSlot r.group ≠ some j → r.state.unacknowledged = true →
        t.slot j = { x with content := .live { r with silenced := false } }) := by
  unfold State.surfacedInTurn
  rw [hx, hq]

/-- Surfacing in turn is judged by the slots and by what is visible. -/
theorem State.surfacedInTurn_congr {s t u : State} {touched : List SlotIx} {j : SlotIx} {x : Slot}
    (hslot : u.slot j = t.slot j) (hv : ∀ g, u.visibleSlot g = t.visibleSlot g) (h : s.surfacedInTurn t touched j x) :
    s.surfacedInTurn u touched j x := by
  unfold State.surfacedInTurn at h ⊢
  simpa only [hslot, hv] using h

/-- From `s` to `u` an event of R29, ACK or RESET, has been delivered in turn to the records of `touched`, all of which
it moves or retires. Other records that were visible are so still (R51, R56). -/
structure InTurn (s u : State) (ev : RecordEvent) (c : Cause) (touched : List SlotIx) : Prop where
  answer : ∀ i ∈ touched, s.answersTo ev i = true
  slots : ∀ j, s.surfacedInTurn u touched j (s.eventSlots ev c touched j)
  stays : ∀ g j, j ∉ touched → s.visibleSlot g = some j → u.visibleSlot g = some j
  arrival : u.table.arrival = s.table.arrival.filter fun j => !(decide (j ∈ touched) && s.retires ev j)
  freeing : s.table.freeCount ≤ u.table.freeCount
  low : u.table.low = lowAfterFreeing s u
  sessions : ∀ m, u.session m = { s.session m with changed := (u.session m).changed }
  changed : ∀ m j, j ∈ (u.session m).changed ↔
    j ∈ (if j ∈ touched then s.eventChanged ev c j m else (s.session m).changed)
  roles : s.sameRoles u
  time : u.time = s.time

theorem InTurn.start (s : State) (ev : RecordEvent) (c : Cause) : InTurn s s ev c [] where
  answer := by simp
  slots j := by
    have hslot : s.eventSlots ev c [] j = s.slot j := if_neg (by simp)
    rw [hslot]
    cases hx : (s.slot j).content with
    | live r =>
      rw [State.surfacedInTurn_live hx (State.record_eq_some.mpr hx)]
      exact ⟨.inl rfl, fun h => absurd rfl h, fun hv hn => absurd hv hn⟩
    | free => rw [State.surfacedInTurn_dead (by simp [hx])]
    | tombstone e => rw [State.surfacedInTurn_dead (by simp [hx])]
  stays g j _ h := h
  arrival := by simp
  freeing := le_rfl
  low := (lowAfterFreeing_of_count rfl).symm
  sessions m := rfl
  changed m j := by simp
  roles := ⟨rfl, rfl, rfl, rfl⟩
  time := rfl

section InTurn
variable {s u : State} {ev : RecordEvent} {c : Cause} {touched : List SlotIx}

/-- A slot is what the events made of it, but for a silenced flag. -/
theorem InTurn.surfaced (h : InTurn s u ev c touched) (j : SlotIx) :
    (s.eventSlots ev c touched j).sameButSurfaced (u.slot j) := by
  have hslot := h.slots j
  unfold State.surfacedInTurn at hslot
  split at hslot
  · next r q hr hq => exact hslot.1.imp id fun e => ⟨r, hr, e⟩
  · exact .inl hslot

theorem InTurn.untouched (h : InTurn s u ev c touched) {i : SlotIx} (hi : i ∉ touched) :
    (s.slot i).sameButSurfaced (u.slot i) := by
  have hslot := h.surfaced i
  rwa [State.eventSlots, if_neg hi] at hslot

/-- A LIVE record that is left is the one that was, or has been moved and is acknowledged. -/
theorem InTurn.eventSlots_live (h : InTurn s u ev c touched) (hev : ev.isAnswer) {j : SlotIx} {r : Record}
    (hr : (s.eventSlots ev c touched j).content = .live r) : ∃ q, s.record j = some q ∧ r.group = q.group ∧
      (r.state.unacknowledged = true → j ∉ touched ∧ r = q) := by
  unfold State.eventSlots at hr
  split at hr
  · next hj =>
    obtain ⟨hack, q, hq, hgroup, -⟩ := State.eventSlot_live hev (h.answer j hj) hr
    exact ⟨q, hq, hgroup, fun hunack => absurd (hack.symm.trans hunack) (by decide)⟩
  · next hj => exact ⟨r, State.record_eq_some.mpr hr, rfl, fun _ => ⟨hj, rfl⟩⟩

end InTurn

/-- The low-table flag after two freeings is as after one (R13). -/
theorem lowAfterFreeing_trans {s u t : State} (hlow : u.table.low = lowAfterFreeing s u)
    (hfirst : s.table.freeCount ≤ u.table.freeCount) (hsecond : u.table.freeCount ≤ t.table.freeCount) :
    lowAfterFreeing u t = lowAfterFreeing s t := by
  have hthreshold : (¬(s.table.freeCount ≤ 4 ∧ 5 ≤ u.table.freeCount) ∧
        ¬(u.table.freeCount ≤ 4 ∧ 5 ≤ t.table.freeCount)) ↔
      ¬(s.table.freeCount ≤ 4 ∧ 5 ≤ t.table.freeCount) := by omega
  rw [Bool.eq_iff_iff]
  simp only [lowAfterFreeing, hlow, Bool.and_eq_true, Bool.not_eq_true', ← Bool.not_eq_true, decide_eq_true_iff,
    and_assoc, hthreshold]

/-- A LIVE slot surfaces under the conditions of R58, and stands otherwise. -/
theorem surfacedSlot_cases {s t : State} {g : Group} {j : SlotIx} {x : Slot} {r : Record} (hx : x.content = .live r) :
    ((t.visibleSlot g = some j ∧ s.visibleSlot g ≠ some j ∧ r.state.unacknowledged = true) ∧
      surfacedSlot s t g j x = { x with content := .live { r with silenced := false } }) ∨
    (¬(t.visibleSlot g = some j ∧ s.visibleSlot g ≠ some j ∧ r.state.unacknowledged = true) ∧
      surfacedSlot s t g j x = x) := by
  unfold surfacedSlot
  rw [hx]
  dsimp only
  split
  · next hc => exact .inl ⟨hc, rfl⟩
  · next hc => exact .inr ⟨hc, rfl⟩

section Next
variable {s u : State} {ev : RecordEvent} {c : Cause} {touched : List SlotIx} {i : SlotIx}

/-- The record that takes the event next: moved or retired as the first state has it, but for a silenced flag that an
earlier surfacing cleared. -/
theorem InTurn.next_self (h : InTurn s u ev c touched) (hev : ev.isAnswer) (hi : i ∉ touched)
    (hans : s.answersTo ev i = true) :
    s.surfacedInTurn (u.deliver ev c i) (touched ++ [i]) i (s.eventSlot ev c i) := by
  obtain ⟨p, hp, -⟩ := State.answersTo_iff.mp hans
  have hsame := h.untouched hi
  obtain ⟨b, hu⟩ := hsame.record hp
  have hself : (u.deliver ev c i).slot i = u.eventSlot ev c i := by
    rw [(State.deliver_spec hu ev c).1 i, if_pos rfl]
    exact surfacedSlot_of_acknowledged fun r hr => (State.eventSlot_live hev ((hsame.answersTo ev).trans hans) hr).1
  have hevent := hsame.eventSlot h.time hans c
  rw [← hself] at hevent
  by_cases hlive : ∃ r, (s.eventSlot ev c i).content = .live r
  · obtain ⟨r, hr⟩ := hlive
    obtain ⟨hack, -⟩ := State.eventSlot_live hev hans hr
    have hbefore := h.slots i
    rw [State.eventSlots, if_neg hi, State.surfacedInTurn_live (State.record_eq_some.mp hp) hp] at hbefore
    rw [State.surfacedInTurn_live hr hp]
    refine ⟨?_, fun hne => ?_, fun _ _ hunack => ?_⟩
    · rcases hevent with e | ⟨q, hq, e⟩
      · exact .inl e
      · cases hr.symm.trans hq
        exact .inr e
    · obtain ⟨hunack, hhidden, k, hk, hgroup⟩ := hbefore.2.1 fun e =>
        hne (hself.trans (State.eventSlot_congr e h.time ev c))
      exact ⟨hunack, hhidden, k, List.mem_append_left _ hk, hgroup⟩
    · rw [hack] at hunack
      cases hunack
  · rw [State.surfacedInTurn_dead (not_exists.mp hlive)]
    exact hevent.resolve_right fun ⟨q, hq, _⟩ => hlive ⟨q, hq⟩

/-- Another record: it surfaces where the event uncovers it, and stands otherwise. -/
theorem InTurn.next_other (h : InTurn s u ev c touched) (hev : ev.isAnswer) (hi : i ∉ touched)
    (hans : s.answersTo ev i = true) {j : SlotIx} (hj : j ≠ i) :
    s.surfacedInTurn (u.deliver ev c i) (touched ++ [i]) j (s.eventSlots ev c touched j) := by
  obtain ⟨p, hp, -⟩ := State.answersTo_iff.mp hans
  have hsame := h.untouched hi
  obtain ⟨b, hu⟩ := hsame.record hp
  have hrecedes := State.deliver_recedes hev c ((hsame.answersTo ev).trans hans)
  have hother := (State.deliver_spec hu ev c).1 j
  rw [if_neg hj] at hother
  have hbefore := h.slots j
  by_cases hlive : ∃ r, (s.eventSlots ev c touched j).content = .live r
  · obtain ⟨r, hr⟩ := hlive
    obtain ⟨q, hq, hgroup, hunacked⟩ := h.eventSlots_live hev hr
    rw [State.surfacedInTurn_live hr hq] at hbefore ⊢
    obtain ⟨hform, hcleared, hseen⟩ := hbefore
    set cleared : Slot := { s.eventSlots ev c touched j with content := .live { r with silenced := false } }
    obtain ⟨r', hr', hstate, hclear⟩ : ∃ r', (u.slot j).content = .live r' ∧ r'.state = r.state ∧
        { u.slot j with content := .live { r' with silenced := false } } = cleared := by
      rcases hform with e | e
      · exact ⟨r, by rw [e, hr], rfl, by rw [e]⟩
      · exact ⟨{ r with silenced := false }, by rw [e], rfl, by rw [e]⟩
    rcases surfacedSlot_cases (s := u) (t := u.deliver ev c i) (g := p.group) (j := j) hr' with
      ⟨⟨hvisible, hhidden, hunack⟩, e⟩ | ⟨hnot, e⟩
    · have hsurfaced := (hother.trans e).trans hclear
      rw [hstate] at hunack
      obtain ⟨hjt, rfl⟩ := hunacked hunack
      have hpr : p.group = r.group := by
        obtain ⟨y, hy, hyg⟩ := State.visibleSlot_record hvisible
        cases hy.symm.trans (State.record_eq_some.mpr (congrArg Slot.content hsurfaced))
        exact hyg.symm
      refine ⟨.inr hsurfaced, fun _ => ⟨hunack, fun hv => ?_, i, by simp, p, hp, hpr⟩, fun _ _ _ => hsurfaced⟩
      exact hhidden (hpr ▸ h.stays _ j hjt hv)
    · have hstands := hother.trans e
      rw [hstands]
      refine ⟨hform, fun hne => ?_, fun hvisible hhidden hunack => ?_⟩
      · obtain ⟨hq', hhidden, k, hk, hkgroup⟩ := hcleared hne
        exact ⟨hq', hhidden, k, List.mem_append_left _ hk, hkgroup⟩
      · refine hseen ?_ hhidden hunack
        by_cases hpr : p.group = r.group
        · by_contra hnv
          rw [hpr, hstate] at hnot
          exact hnot ⟨hvisible, hnv, hunack⟩
        · exact hrecedes.visibleSlot_other hu hpr hvisible
  · have hdead := not_exists.mp hlive
    rw [State.surfacedInTurn_dead hdead] at hbefore ⊢
    rw [hother, hbefore, surfacedSlot_of_acknowledged fun r hr => absurd hr (hdead r)]

/-- One more record takes the event. -/
theorem InTurn.next (h : InTurn s u ev c touched) (hev : ev.isAnswer) (hi : i ∉ touched)
    (hans : s.answersTo ev i = true) : InTurn s (u.deliver ev c i) ev c (touched ++ [i]) := by
  obtain ⟨p, hp, -⟩ := State.answersTo_iff.mp hans
  have hsame := h.untouched hi
  obtain ⟨b, hu⟩ := hsame.record hp
  have hrecedes := State.deliver_recedes hev c ((hsame.answersTo ev).trans hans)
  obtain ⟨hslot, harr, hlow, hsession, hroles⟩ := State.deliver_spec hu ev c
  have hreassert : ev ≠ .reassert := by rcases hev with rfl | rfl <;> exact nofun
  have hfreeing : u.table.freeCount ≤ (u.deliver ev c i).table.freeCount := by
    refine Table.freeCount_mono fun j hj => ?_
    have hji : j ≠ i := by
      rintro rfl
      rw [Slot.isFree_iff] at hj
      rw [State.record_eq_some, State.slot, hj] at hu
      cases hu
    have hother := hslot j
    rw [if_neg hji] at hother
    change ((u.deliver ev c i).slot j).isFree = true
    rw [hother, (surfacedSlot_kind ..).2.1]
    exact hj
  refine ⟨?_, fun j => ?_, fun g j hj hv => ?_, ?_, h.freeing.trans hfreeing, ?_, fun m => ?_, fun m j => ?_,
    State.sameRoles_trans h.roles hroles, by simpa using h.time⟩
  · simpa [or_imp, forall_and] using ⟨h.answer, hans⟩
  · by_cases hj : j = i
    · subst hj
      rw [State.eventSlots, if_pos (by simp)]
      exact h.next_self hev hi hans
    · have hslots : s.eventSlots ev c (touched ++ [i]) j = s.eventSlots ev c touched j := by
        simp [State.eventSlots, hj]
      rw [hslots]
      exact h.next_other hev hi hans hj
  · rw [List.mem_append, List.mem_singleton, not_or] at hj
    exact hrecedes.stays hj.2 (h.stays g j hj.1 hv)
  · rw [harr, if_neg (fun e : ev = .reassert ∧ _ => hreassert e.1), hsame.retires hp, h.arrival, List.filter_filter]
    split
    · next hret => exact List.filter_congr fun j _ => by by_cases hj : j = i <;> simp [hj, hret]
    · next hret => exact List.filter_congr fun j _ => by by_cases hj : j = i <;> simp [hj, hret]
  · rw [hlow, lowAfterFreeing_trans h.low h.freeing hfreeing]
  · rw [hsession m, h.sessions m]
  · have hmem := h.changed m j
    rw [hsession m]
    by_cases hj : j = i
    · subst hj
      rw [if_neg hi] at hmem
      rw [if_pos (by simp)]
      exact hsame.mem_eventChanged hp hmem ev c
    · rw [State.mem_eventChanged_other hj, hmem]
      simp [hj]

end Next

/-- ACK or RESET delivered to distinct slots in turn: the records that answer to it are moved or retired, and the others
stand (R28). -/
theorem State.deliverAll_inTurn (s : State) {ev : RecordEvent} (hev : ev.isAnswer) (c : Cause) {targets : List SlotIx}
    (hnodup : targets.Nodup) : InTurn s (s.deliverAll ev c targets) ev c (targets.filter (s.answersTo ev)) := by
  induction targets using List.reverseRecOn with
  | nil => exact .start s ev c
  | append_singleton xs i ih =>
    obtain ⟨hxs, -, hdisjoint⟩ := List.nodup_append'.mp hnodup
    have hi : i ∉ xs.filter (s.answersTo ev) := fun hmem =>
      hdisjoint (List.mem_of_mem_filter hmem) (List.mem_singleton_self i)
    have hturn := ih hxs
    have hdeliver : s.deliverAll ev c (xs ++ [i]) = (s.deliverAll ev c xs).deliver ev c i := by
      simp [State.deliverAll]
    rw [hdeliver, List.filter_append]
    cases hans : s.answersTo ev i with
    | true =>
      rw [List.filter_singleton, hans, cond_true]
      exact hturn.next hev hi hans
    | false =>
      rw [List.filter_singleton, hans, cond_false, List.append_nil,
        (State.not_answersTo (((hturn.untouched hi).answersTo ev).trans hans) c).1]
      exact hturn

theorem State.settled_visibleSlot (u : State) (l : Link) (r : Request) (payload : List Byte) (g : Group) :
    (u.settled l r payload).visibleSlot g = u.visibleSlot g := by
  obtain ⟨-, -, -, -, -, map, -, -, supply, -⟩ := u.redecideHorn_frame
  exact SameView.visibleSlot (.of_fields (by simp) (congrArg OutputMap.active map) supply) g

/-- ACK or RESET that a request delivers to distinct slots, the horn re-decided and the request answered. -/
theorem Delivered.settled (s : State) {ev : RecordEvent} (hev : ev.isAnswer) (c : Cause) {targets : List SlotIx}
    (hnodup : targets.Nodup) (l : Link) (r : Request) (payload : List Byte) :
    Delivered s ((s.deliverAll ev c targets).settled l r payload) ev c targets := by
  have h := s.deliverAll_inTurn hev c hnodup
  refine ⟨fun j => ?_, ?_, ?_, fun m => ?_, fun m j => ?_, State.sameRoles_settled h.roles ..,
    State.sameBut_settled (by simp) ..⟩
  · have hslot : s.eventSlots ev c (targets.filter (s.answersTo ev)) j =
        if j ∈ targets then s.eventSlot ev c j else s.slot j := by
      cases hans : s.answersTo ev j <;> simp [State.eventSlots, hans, State.not_answersTo]
    rw [← hslot]
    exact State.surfacedInTurn_congr (State.settled_slot ..) (State.settled_visibleSlot _ l r payload) (h.slots j)
  · rw [State.settled_table, h.arrival]
    refine List.filter_congr fun j _ => ?_
    cases hans : s.answersTo ev j <;> simp [hans, State.not_answersTo (c := c)]
  · rw [State.settled_table, h.low, lowAfterFreeing_settled]
  · rw [State.settled_session]
    exact h.sessions m
  · rw [State.settled_session, h.changed m j]
    cases hans : s.answersTo ev j <;> simp [hans, State.not_answersTo]

/-! ### ACKNOWLEDGE and REMOTE_RESET (R44–R47) -/

/-- The visible record of a group, by its slot, if its state is one of `want`. -/
def State.visibleWith (s : State) (want : Annunciation → Bool) (g : Group) : Option SlotIx :=
  (s.visibleSlot g).filter fun i => (s.record i).any fun q => want q.state

theorem State.visibleIn_eq (s : State) (want : Annunciation → Bool) :
    s.visibleIn want = allGroups.filterMap (s.visibleWith want) := by
  unfold State.visibleIn State.visibleWith
  congr 1
  funext g
  cases s.visibleSlot g with
  | none => rfl
  | some i => cases hq : s.record i <;> simp [Option.filter, hq]

theorem State.visibleWith_eq_some {s : State} {want : Annunciation → Bool} {g : Group} {i : SlotIx} :
    s.visibleWith want g = some i ↔
      s.visibleSlot g = some i ∧ ∃ q, s.record i = some q ∧ want q.state = true := by
  rw [State.visibleWith, Option.filter_eq_some_iff, Option.any_eq_true]

/-- The visible records are distinct, since each names the one group it is visible in. -/
theorem State.visibleIn_nodup (s : State) (want : Annunciation → Bool) : (s.visibleIn want).Nodup := by
  rw [State.visibleIn_eq]
  refine List.Nodup.filterMap (fun g g' i hg hg' => ?_) (List.nodup_finRange 24)
  obtain ⟨q, hq, rfl⟩ := State.visibleSlot_record (State.visibleWith_eq_some.mp hg).1
  obtain ⟨q', hq', rfl⟩ := State.visibleSlot_record (State.visibleWith_eq_some.mp hg').1
  rw [Option.some.inj (hq.symm.trans hq')]

/-- The set that ALL_VISIBLE takes for ACK and for RESET (R46, R47). -/
def State.visibleTargets (s : State) (ev : RecordEvent) : List SlotIx :=
  if ev = .ack then s.visibleUnacknowledged else s.visibleAwaitingReset

/-- The targets of ALL_VISIBLE are distinct, and each answers to the event (R29). -/
theorem State.visibleTargets_answer (s : State) {ev : RecordEvent} (hev : ev.isAnswer) :
    (s.visibleTargets ev).Nodup ∧ ∀ i ∈ s.visibleTargets ev, s.answersTo ev i = true := by
  have hmem : ∀ {want i}, i ∈ s.visibleIn want → ∃ q, s.record i = some q ∧ want q.state = true := by
    intro want i hi
    rw [State.visibleIn_eq] at hi
    obtain ⟨g, -, hg⟩ := List.mem_filterMap.mp hi
    exact (State.visibleWith_eq_some.mp hg).2
  rcases hev with rfl | rfl
  · refine ⟨s.visibleIn_nodup Annunciation.unacknowledged, fun i hi => State.answersTo_iff.mpr ?_⟩
    obtain ⟨q, hq, hwant⟩ := hmem (want := Annunciation.unacknowledged) hi
    refine ⟨q, hq, ?_⟩
    cases hstate : q.state <;> rw [hstate] at hwant
    case new => exact .inr ⟨.acked, rfl⟩
    case clearedNew =>
      by_cases hlatch : q.latch = .ackReset
      · exact .inr ⟨.awaitReset, if_pos hlatch⟩
      · exact .inl (if_neg hlatch)
    all_goals cases hwant
  · refine ⟨s.visibleIn_nodup (· == .awaitReset), fun i hi => State.answersTo_iff.mpr ?_⟩
    obtain ⟨q, hq, hwant⟩ := hmem (want := (· == .awaitReset)) hi
    exact ⟨q, hq, .inl (by rw [of_decide_eq_true hwant]; rfl)⟩

/-- The request code of ACKNOWLEDGE and of REMOTE_RESET (R184). -/
def RecordEvent.requestCode (ev : RecordEvent) : Byte := if ev = .ack then codeAcknowledge else codeRemoteReset

/-- The rows of ACKNOWLEDGE and REMOTE_RESET differ by the event, its code and its visible set. -/
theorem exec_targetRows {ev : RecordEvent} (hev : ev.isAnswer) (l : Link) (s : State) :
    exec (if ev = .ack then .acknowledgeHandles l else .remoteResetHandles l) s =
      takeRequest l s (isHandlesMode ev.requestCode) (targetsRequest ev (·.visibleTargets ev) l) ∧
    exec (if ev = .ack then .acknowledgeAllVisible l else .remoteResetAllVisible l) s =
      takeRequest l s (isAllVisibleMode ev.requestCode) (targetsRequest ev (·.visibleTargets ev) l) := by
  rcases hev with rfl | rfl <;> exact ⟨rfl, rfl⟩

/-- The mode byte is 1 for HANDLES and 2 for ALL_VISIBLE (R44). -/
theorem isHandlesMode_of_handles {r : Request} {code : Byte} {hs : List Handle} (hcode : r.code = code)
    (hp : parseTargets r.payload = some (.handles hs)) : isHandlesMode code r = true := by
  simp [isHandlesMode, hcode, (parseTargets_handles.mp hp).2.2.2]

theorem isAllVisibleMode_of_mode {r : Request} {code : Byte} (hcode : r.code = code) (hp : r.payload = [2#8]) :
    isAllVisibleMode code r = true := by
  simp [isAllVisibleMode, hcode, hp]

section Requests
variable {s : State} {l : Link} {r : Request} {takes : Request → Bool} {ev : RecordEvent}
  {visible : State → List SlotIx}

/-- The primary's request in HANDLES mode, past session and role: delivered to every record listed, or refused whole
(R44, R181). -/
theorem takeTargets_handles (h : s.asks l r) (ht : takes r = true) (hcommands : s.commands l) {hs : List Handle}
    (hp : parseTargets r.payload = some (.handles hs)) : takeRequest l s takes (targetsRequest ev visible l) =
      .next (if ∀ d ∈ hs, (s.table.resolve d).isSome = true then
          (s.deliverAll ev (.link l) (hs.map Handle.slot)).settled l r
            [byteOf ((hs.map Handle.slot).countP (s.answersTo ev))]
        else s.refusing l r .staleHandle) := by
  refine (takeRequest_primary h ht hcommands.1 hcommands.2 rfl).trans ?_
  rw [hp, needPayload_some]
  simp only [List.all_eq_true]
  split
  · exact congrArg _ (Reply.finish_settled ..)
  · rw [Reply.refused_finish]

/-- The primary's request in ALL_VISIBLE mode (R46, R47). -/
theorem takeTargets_allVisible (h : s.asks l r) (ht : takes r = true) (hcommands : s.commands l)
    (hp : parseTargets r.payload = some .allVisible) : takeRequest l s takes (targetsRequest ev visible l) =
      .next ((s.deliverAll ev (.link l) (visible s)).settled l r
        [byteOf ((visible s).countP (s.answersTo ev))]) := by
  refine (takeRequest_primary h ht hcommands.1 hcommands.2 rfl).trans ?_
  rw [hp, needPayload_some]
  exact congrArg _ (Reply.finish_settled ..)

end Requests

/-- Settles O30: the requests by `takeTargets`, and the events that they deliver by `State.deliverAll_inTurn`. -/
theorem acknowledgeAndRemoteReset : Obligations.AcknowledgeAndRemoteReset := by
  refine ⟨fun s ev i => State.answersTo_iff, fun l s r ev h hcommands hrow => ?_⟩
  have hev : ev.isAnswer := hrow.imp And.left And.left
  have hcode : r.code = ev.requestCode := by
    rcases hrow with ⟨rfl, hcode⟩ | ⟨rfl, hcode⟩ <;> exact hcode
  obtain ⟨hhandles, hvisible⟩ := exec_targetRows hev l s
  have hexec {hs} (hp : parseTargets r.payload = some (.handles hs)) :=
    hhandles.trans (takeTargets_handles h (isHandlesMode_of_handles hcode hp) hcommands hp)
  refine ⟨fun hs hp hall => ?_, fun hs hp hstale => ?_, fun hp => ?_⟩
  · have hnodup := (parseTargets_handles.mp hp).2.2.1
    exact ⟨_, (hexec hp).trans (by rw [if_pos hall]), .settled s hev _ hnodup .., State.settled_ports (by simp) ..⟩
  · obtain ⟨d, hd, hnone⟩ := hstale
    refine (hexec hp).trans ?_
    rw [if_neg]
    intro hall
    rw [hall d hd] at hnone
    cases hnone
  · obtain ⟨hnodup, hanswer⟩ := s.visibleTargets_answer hev
    have hexec := hvisible.trans
      (takeTargets_allVisible h (isAllVisibleMode_of_mode hcode hp) hcommands (parseTargets_allVisible.mpr hp))
    rw [List.countP_eq_length.mpr hanswer] at hexec
    exact ⟨_, hexec, .settled s hev _ hnodup .., State.settled_ports (by simp) ..⟩

end Sys2Proof.Machine

/-! ## Claim lists, visibility and displays (R50–R63, R67, R85–R89)

R51 orders a claim list by one key (`Table.precedence`), R56 reads its head, and the points of a frame are read from the
displays of the groups (`State.mem_groupPoints`). -/

namespace Sys2Proof.Machine

/-! ### The claim list (R50, R51) -/

theorem stateRank_le (a : Annunciation) : stateRank a ≤ 3 := by
  cases a <;> decide

theorem Class.code_lt_iff {c d : Class} : c.code < d.code ↔ classRank c < classRank d := by
  cases c <;> cases d <;> decide

theorem classRank_inj {c d : Class} : classRank c = classRank d ↔ c = d := by
  cases c <;> cases d <;> decide

theorem Record.rank_eq_iff {x y : Record} :
    x.rank = y.rank ↔ x.cls = y.cls ∧ stateRank x.state = stateRank y.state ∧ x.priority = y.priority := by
  have hx := stateRank_le x.state
  have hy := stateRank_le y.state
  rw [← classRank_inj, Fin.ext_iff]
  unfold Record.rank
  omega

theorem Record.rank_lt_iff {x y : Record} :
    x.rank < y.rank ↔ x.cls.code < y.cls.code ∨ x.cls = y.cls ∧
      (stateRank x.state < stateRank y.state ∨ stateRank x.state = stateRank y.state ∧ y.priority < x.priority) := by
  have hx := stateRank_le x.state
  have hy := stateRank_le y.state
  rw [Class.code_lt_iff, ← classRank_inj, Fin.lt_def]
  unfold Record.rank
  omega

/-- The four comparisons of R51 as one key: the rank of a slot's record, then its place in the arrival order. -/
def Table.precedence (t : Table) (i : SlotIx) : Nat ×ₗ Nat :=
  toLex ((t.record i).elim 0 Record.rank, t.arrival.idxOf i)

theorem Table.precedence_le_iff {t : Table} {i j : SlotIx} {x y : Record} (hx : t.record i = some x)
    (hy : t.record j = some y) : t.precedence i ≤ t.precedence j ↔
      x.rank < y.rank ∨ x.rank = y.rank ∧ t.arrival.idxOf i ≤ t.arrival.idxOf j := by
  simp [Table.precedence, Prod.Lex.toLex_le_toLex, hx, hy]

/-- On the claimants of a group, all LIVE, the order of R51 is the order of a key, so sorting by it sorts them. -/
theorem Table.claimList_pairwise (t : Table) (g : Group) :
    (t.claimList g).Pairwise fun i j => t.precedence i ≤ t.precedence j := by
  have hkey : ∀ i ∈ t.claimants g, ∀ j ∈ t.claimants g,
      (t.comesBefore i j = true ↔ t.precedence i ≤ t.precedence j) := by
    intro i hi j hj
    obtain ⟨-, x, hx, -⟩ := Table.mem_claimants.mp hi
    obtain ⟨-, y, hy, -⟩ := Table.mem_claimants.mp hj
    rw [Table.comesBefore_iff hx hy, Table.precedence_le_iff hx hy]
  rw [← List.pairwise_map (R := (· ≤ ·)), Table.claimList, List.map_insertionSort _ (· ≤ ·) _ _ hkey]
  exact List.pairwise_insertionSort _ _

theorem Table.mem_claimList {t : Table} {g : Group} {i : SlotIx} :
    i ∈ t.claimList g ↔ i ∈ t.arrival ∧ ∃ r, t.record i = some r ∧ r.group = g :=
  (List.mem_insertionSort _).trans Table.mem_claimants

theorem Table.claimList_nodup {t : Table} (h : t.arrival.Nodup) (g : Group) : (t.claimList g).Nodup :=
  (List.perm_insertionSort _ _).nodup_iff.mpr (h.filter _)

/-- Every LIVE record stands in the arrival order (R9), so a claim list holds them all (R50). -/
theorem State.mem_claimList {s : State} (h : TableSound s) {g : Group} {i : SlotIx} :
    i ∈ s.table.claimList g ↔ ∃ r, s.record i = some r ∧ r.group = g := by
  refine Table.mem_claimList.trans (and_iff_right_of_imp ?_)
  rintro ⟨r, hr, -⟩
  rw [h.live, Slot.isLive_eq_record]
  exact Option.isSome_of_eq_some hr

/-- Settles O49: a claim list is sorted by `Table.precedence`, and distinct members arrived at distinct places. -/
theorem claimListInPrecedenceOrder : Obligations.ClaimListInPrecedenceOrder := by
  intro s g h rank
  have hrank : rank = stateRank := by
    funext a
    cases a <;> rfl
  have hnodup := Table.claimList_nodup h.nodup g
  rw [hrank]
  refine ⟨hnodup, fun i => State.mem_claimList h, ?_⟩
  refine ((Table.claimList_pairwise s.table g).and hnodup).imp_of_mem ?_
  rintro i j hi - ⟨hle, hne⟩ x y hx hy
  have harrival : s.table.arrival.idxOf i ≠ s.table.arrival.idxOf j :=
    mt (List.idxOf_inj (Table.mem_arrival_of_mem_claimList hi)).mp hne
  rw [Table.precedence_le_iff hx hy, Record.rank_lt_iff, Record.rank_eq_iff] at hle
  rcases hle with (hcls | ⟨hcls, hstate | ⟨hstate, hpriority⟩⟩) | ⟨⟨hcls, hstate, hpriority⟩, hplace⟩
  · exact .inl hcls
  · exact .inr ⟨hcls, .inl hstate⟩
  · exact .inr ⟨hcls, .inr ⟨hstate, .inl hpriority⟩⟩
  · exact .inr ⟨hcls, .inr ⟨hstate, .inr ⟨hpriority, lt_of_le_of_ne hplace harrival⟩⟩⟩

/-! ### Visibility (R54–R56) -/

/-- A position of a set is driven when it is below the point count (R54). -/
theorem MapEntry.getLsbD_driven {e : MapEntry} {positions : Byte} {k : Nat} :
    (e.driven positions).getLsbD k = true ↔ positions.getLsbD k = true ∧ k < e.points.length := by
  rw [MapEntry.driven, drivenMask, BitVec.getLsbD_and, BitVec.getLsbD_ofNat, Nat.testBit_two_pow_sub_one]
  simp only [Bool.and_eq_true, decide_eq_true_iff]
  exact ⟨fun ⟨hset, _, hk⟩ => ⟨hset, hk⟩, fun ⟨hset, hk⟩ => ⟨hset, BitVec.lt_of_getLsbD hset, hk⟩⟩

theorem MapEntry.driven_ne_zero {e : MapEntry} {positions : Byte} :
    e.driven positions ≠ 0#8 ↔ ∃ k, positions.getLsbD k = true ∧ k < e.points.length := by
  simp only [← MapEntry.getLsbD_driven]
  constructor
  · contrapose!
    exact fun hclear => BitVec.eq_of_getLsbD_eq fun k _ => by simpa using hclear k
  · rintro ⟨k, hk⟩ hzero
    simp [hzero] at hk

theorem Annunciation.unacknowledged_iff {a : Annunciation} :
    a.unacknowledged = true ↔ a = .new ∨ a = .clearedNew := by
  cases a <;> decide

/-- The heads that keep their group lit at a supply level (R55). -/
theorem shedAt_some {level : Level} {c : Class} :
    shedAt level (some c) = false ↔ level = .normal ∨ c = .alarm ∨ level = .low ∧ c = .warning := by
  cases level <;> cases c <;> decide

theorem State.isVisible_iff {s : State} {i : SlotIx} :
    s.isVisible i = true ↔ ∃ r, s.record i = some r ∧ s.visibleSlot r.group = some i := by
  unfold State.isVisible
  cases s.record i <;> simp

/-- The visible slot of a group is that of its visible record. -/
theorem State.visibleSlot_iff_isVisible {s : State} {g : Group} {i : SlotIx} :
    s.visibleSlot g = some i ↔ s.isVisible i = true ∧ ∃ r, s.record i = some r ∧ r.group = g := by
  rw [State.isVisible_iff]
  constructor
  · intro hv
    obtain ⟨r, hr, rfl⟩ := State.visibleSlot_record hv
    exact ⟨⟨r, hr, hv⟩, r, hr, rfl⟩
  · rintro ⟨⟨r, hr, hv⟩, q, hq, rfl⟩
    cases hr.symm.trans hq
    exact hv

theorem State.mem_visibleIn {s : State} {want : Annunciation → Bool} {i : SlotIx} :
    i ∈ s.visibleIn want ↔ s.isVisible i = true ∧ ∃ r, s.record i = some r ∧ want r.state = true := by
  rw [State.visibleIn_eq, List.mem_filterMap, State.isVisible_iff]
  constructor
  · rintro ⟨g, -, hg⟩
    obtain ⟨hv, hwant⟩ := State.visibleWith_eq_some.mp hg
    obtain ⟨r, hr, rfl⟩ := State.visibleSlot_record hv
    exact ⟨⟨r, hr, hv⟩, hwant⟩
  · rintro ⟨⟨r, -, hv⟩, hwant⟩
    exact ⟨r.group, List.mem_finRange _, State.visibleWith_eq_some.mpr ⟨hv, hwant⟩⟩

/-- Settles O50: the four conditions by `State.visibleSlot_eq_some_iff`, the visible sets by `State.mem_visibleIn`. -/
theorem visibleMeansFourConditions : Obligations.VisibleMeansFourConditions := by
  refine ⟨fun _ => Annunciation.unacknowledged_iff, fun s => ⟨s.visibleIn_nodup _, s.visibleIn_nodup _⟩,
    fun s i => ⟨?_, ?_, fun g => State.visibleSlot_iff_isVisible⟩, fun s i => ?_⟩
  · simp only [← Annunciation.unacknowledged_iff]
    exact State.mem_visibleIn
  · simp only [State.visibleAwaitingReset, State.mem_visibleIn, beq_iff_eq]
  · rw [State.isVisible_iff]
    refine exists_congr fun r => and_congr_right fun hr => ?_
    refine State.visibleSlot_eq_some_iff.trans (and_congr_right fun _ => ?_)
    simp only [hr, Option.some.injEq, exists_eq_left', MapEntry.driven_ne_zero, Bool.and_eq_false_iff, shedAt_some]
    exact and_congr_left fun _ => List.length_pos_iff

/-! ### Displays (R61–R63) -/

theorem State.display_visible {s : State} {g : Group} {i : SlotIx} {r : Record} (hv : s.visibleSlot g = some i)
    (hr : s.record i = some r) : s.display g = .lit ((s.entry g).driven r.glyph) r.state.pattern := by
  simp only [State.display, hv, hr]

/-- A group shows its idle glyph: no record claims it, it is not shed, and a position of the glyph is driven (R61). -/
def State.showsIdle (s : State) (g : Group) : Prop :=
  s.table.claimList g = [] ∧ s.shed g = false ∧ (s.entry g).driven (s.entry g).idle ≠ 0#8

/-- An empty group is shed at LOW and CRITICAL, unless shedding is off (R55). -/
theorem State.shed_empty {s : State} {g : Group} (h : s.table.claimList g = []) :
    s.shed g = false ↔ s.supply.shedding = false ∨ s.supply.level = .normal := by
  have hhead : s.headClass g = none := by simp [State.headClass, Table.head, h]
  rw [State.shed, hhead, Bool.and_eq_false_iff]
  cases s.supply.level <;> simp [shedAt]

theorem State.showsIdle_iff {s : State} {g : Group} :
    s.showsIdle g ↔ s.table.claimList g = [] ∧ (s.supply.shedding = false ∨ s.supply.level = .normal) ∧
      ∃ k : Nat, (s.entry g).idle.getLsbD k = true ∧ k < (s.entry g).points.length :=
  and_congr_right fun h => and_congr (State.shed_empty h) MapEntry.driven_ne_zero

/-- A group that no record claims has no visible record. -/
theorem State.visibleSlot_empty {s : State} {g : Group} (h : s.table.claimList g = []) : s.visibleSlot g = none := by
  simp [State.visibleSlot, Table.head, h]

theorem State.display_idle {s : State} {g : Group} (h : s.showsIdle g) :
    s.display g = .lit ((s.entry g).driven (s.entry g).idle) .steady := by
  simp only [State.display, State.visibleSlot_empty h.1]
  exact if_pos h

theorem State.display_dark {s : State} {g : Group} (hv : s.visibleSlot g = none) (h : ¬s.showsIdle g) :
    s.display g = .dark := by
  simp only [State.display, hv]
  exact if_neg h

/-! ### The points and the lines (R67, R85–R89) -/

/-- A group lights the points that its list has at the positions of its display, in the frames of its pattern (R87). -/
theorem State.mem_groupPoints {s : State} {g : Group} {p : Point} : p ∈ s.groupPoints g ↔
    ∃ (k : Nat) (positions : Byte) (pattern : Pattern), s.display g = .lit positions pattern ∧
      (s.entry g).points[k]? = some p ∧ positions.getLsbD k = true ∧ pattern.onIn s.panel.frame = true := by
  unfold State.groupPoints
  cases s.display g with
  | dark => simp
  | lit positions pattern =>
    cases hon : pattern.onIn s.panel.frame <;> simp [hon, List.mem_zipIdx_iff_getElem?]

theorem State.compose_get {s : State} {p : Point} :
    s.compose.get p = true ↔ s.panel.lamp.running = true ∨ ∃ g, p ∈ s.groupPoints g := by
  have hget : s.compose.get p = (s.panel.lamp.running || (allGroups.flatMap s.groupPoints).contains p) := by
    simp [State.compose, Vector.get, Fin.cast]
  simp [hget, allGroups]

/-- The points of a frame are composed from what stands beside them. -/
theorem State.composeFrame_points (s : State) : s.composeFrame.panel.points = s.composeFrame.compose :=
  rfl

/-- FRAME_START that completes no commit (R85, R88). -/
theorem exec_frameStart {s : State} (h : s.ready) (hcommit : s.panel.frame ≠ 63 ∨ s.map.commit = .idle) :
    exec .frameStart s = .next s.advanceFrame.composeFrame := by
  refine (takeInside_ready h State.startFrame).trans (congrArg _ (s.startFrame_spec.2 ?_))
  rintro ⟨hframe, hpending⟩
  rcases hcommit with hne | hidle
  · exact hne hframe
  · rw [hidle] at hpending
    cases hpending

theorem pointAt_eq {p : Point} {quarter : Fin 4} {segment : Fin 24} (h : p.val = 24 * quarter.val + segment.val) :
    pointAt quarter segment = p :=
  Fin.ext h.symm

/-- Settles O44: the frame by `exec_frameStart`, the points by `State.compose_get`, the displays by their three cases. -/
theorem frameStartComposesPoints : Obligations.FrameStartComposesPoints := by
  refine ⟨fun s h hcommit => ?_, fun s => ⟨fun p => ?_, fun g => ?_, fun quarter common => ?_,
    fun p quarter segment hp => ?_⟩⟩
  · refine ⟨_, exec_frameStart h hcommit, ?_⟩
    rw [State.advanceFrame_spec]
    exact ⟨Fin.val_add _ _, rfl, State.composeFrame_points _, rfl, rfl, rfl, rfl, rfl, rfl, rfl, rfl, rfl, rfl⟩
  · simp only [State.compose_get, State.mem_groupPoints, State.entry]
  · intro e idleShown drives
    have hidle : idleShown ↔ s.showsIdle g := State.showsIdle_iff.symm
    have hdrives : ∀ glyph, drives (e.driven glyph) glyph := fun _ _ => MapEntry.getLsbD_driven
    refine ⟨fun i r hv hr => ⟨_, hdrives r.glyph, (State.display_visible hv hr).trans ?_⟩,
      fun hshown => ⟨_, hdrives e.idle, State.display_idle (hidle.mp hshown)⟩,
      fun hv hnot => State.display_dark hv (mt hidle.mpr hnot)⟩
    cases r.state <;> rfl
  · simp [State.commonSinks]
  · simp [State.segmentSources, pointAt_eq hp]

end Sys2Proof.Machine

/-! ## The Output Map: its writers (R72–R82)

Few operations write the map: a change of the primary and ABORT_MAP reset the staged map, a departure of the primary and
ABORT_MAP end a commit, STAGE_MAP and COMMIT_MAP write what they name, and the frame 0 that completes a commit copies the
staged map. Every other operation leaves the block alone. -/

namespace Sys2Proof.Machine

/-! ### Roles and departures -/

theorem State.changePrimary_map (s : State) (p : Option Link) :
    (s.changePrimary p).map = { s.map with staged := s.map.active } :=
  rfl

theorem State.swapRoles_map (s : State) (l : Link) :
    (s.swapRoles l).map = { s.map with staged := s.map.active } := by
  rw [State.swapRoles_spec]

theorem State.promote_map (s : State) (l : Link) :
    (s.promote l).map = { s.map with staged := s.map.active } := by
  simp [State.promote, State.changePrimary_map]

/-- The departure of the primary abandons a commit and resets the staged map (R81, R82). -/
theorem State.primaryDeparts_map (s : State) (l : Link) :
    (s.primaryDeparts l).map = { active := s.map.active, staged := s.map.active, commit := .idle } := by
  unfold State.primaryDeparts
  dsimp only
  repeat' split
  all_goals simp [State.promote_map, State.changePrimary_map]

theorem State.departRecords_map (s : State) (l : Link) (all : Bool) : (s.departRecords l all).1.map = s.map := by
  unfold State.departRecords
  refine List.foldlRecOn (motive := fun acc : State × Tally => acc.1.map = s.map) _ _ rfl fun acc hacc i _ => ?_
  rcases departSlot_cases l all acc i with ⟨e, -⟩ | ⟨r, -, -, e | e | ⟨-, -, e⟩⟩ <;> rw [e, ← hacc] <;> simp

/-- A departure touches the map where the primary departs (R82, R154). -/
theorem State.depart_map (s : State) (l : Link) (all : Bool) (into : SessionState) (peer : PeerNotice) :
    (s.depart l all into peer).1.map =
      if s.sessions.primary = some l then { active := s.map.active, staged := s.map.active, commit := .idle }
      else s.map := by
  unfold State.depart
  split <;> simp [State.primaryDeparts_map, State.departRecords_map, *]

/-! ### Requests that leave the map alone -/

section
variable {s : State} {l : Link} {y : Reply}

theorem needSession_map (hy : y.state.map = s.map) : (needSession s l y).state.map = s.map :=
  KeptByOperations.needSession (P := fun t => t.map = s.map) rfl fun _ => hy

theorem needPrimary_map (hy : y.state.map = s.map) : (needPrimary s l y).state.map = s.map :=
  KeptByOperations.needPrimary (P := fun t => t.map = s.map) rfl hy

theorem needPayload_map {α : Type} {p : Option α} {k : α → Reply} (hk : ∀ x, (k x).state.map = s.map) :
    (needPayload s p k).state.map = s.map :=
  KeptByOperations.needPayload (P := fun t => t.map = s.map) rfl fun x _ => hk x

theorem needRecord_map {d : Handle} {k : Record → Reply} (hk : ∀ r, (k r).state.map = s.map) :
    (needRecord s d k).state.map = s.map :=
  KeptByOperations.needRecord (P := fun t => t.map = s.map) rfl fun r _ => hk r

theorem needOwner_map {r : Record} {o : Option Link} (hy : y.state.map = s.map) :
    (needOwner s r o y).state.map = s.map :=
  KeptByOperations.needOwner (P := fun t => t.map = s.map) rfl fun _ => hy

theorem needIdleCommit_map (hy : y.state.map = s.map) : (needIdleCommit s y).state.map = s.map :=
  KeptByOperations.needIdleCommit (P := fun t => t.map = s.map) rfl hy

@[simp] theorem Reply.ok_state (s : State) (p : List Byte) : (Reply.ok s p).state = s := rfl

@[simp] theorem Reply.refused_state (s : State) (v : Result) : (Reply.refused s v).state = s := rfl

end

section
variable (l : Link) (b : List Byte) (s : State)

theorem pingRequest_map : (pingRequest l b s).state.map = s.map :=
  needSession_map (needPayload_map fun _ => rfl)

theorem setAttentionRequest_map : (setAttentionRequest l b s).state.map = s.map :=
  needSession_map (needPayload_map fun _ => rfl)

theorem collectRequest_map : (collectRequest l b s).state.map = s.map :=
  needSession_map (needPayload_map fun _ => by simp [State.collected, State.freeReportedAll_frame])

theorem permitRequest_map : (permitRequest l b s).state.map = s.map := by
  refine needSession_map (needPrimary_map (needPayload_map fun grant => ?_))
  have hgrant : (s.grantPermit l).map = s.map := by simp [State.grantPermit]
  have hwithdraw : s.withdrawPermit.map = s.map := by
    unfold State.withdrawPermit
    dsimp only
    repeat' split
    all_goals simp
  repeat' split
  · exact hgrant
  · rfl
  · exact hwithdraw

theorem claimRequest_map : (claimRequest l b s).state.map = s.map := by
  refine needSession_map (needPrimary_map (needPayload_map fun _ => needRecord_map fun _ => needOwner_map ?_))
  split <;> simp

theorem postRequest_map : (postRequest l b s).state.map = s.map := by
  refine needSession_map (needPayload_map fun _ => ?_)
  repeat' split
  all_goals simp [State.allocate]

theorem amendRequest_map : (amendRequest l b s).state.map = s.map :=
  needSession_map (needPayload_map fun _ => needRecord_map fun _ => needOwner_map (by simp))

theorem clearRequest_map : (clearRequest l b s).state.map = s.map :=
  needSession_map (needPayload_map fun _ => needRecord_map fun _ => needOwner_map (by simp))

theorem reassertRequest_map : (reassertRequest l b s).state.map = s.map := by
  refine needSession_map (needPayload_map fun _ => needRecord_map fun _ => needOwner_map ?_)
  split <;> simp

theorem withdrawRequest_map : (withdrawRequest l b s).state.map = s.map :=
  needSession_map (needPayload_map fun _ => needRecord_map fun _ => needOwner_map (by simp))

theorem findRequest_map : (findRequest l b s).state.map = s.map := by
  refine needSession_map (needPayload_map fun _ => ?_)
  split <;> rfl

theorem queryRequest_map : (queryRequest l b s).state.map = s.map :=
  needSession_map (needPayload_map fun _ => needRecord_map fun _ => rfl)

theorem listGroupRequest_map : (listGroupRequest l b s).state.map = s.map :=
  needSession_map (needPayload_map fun _ => rfl)

theorem panelStatusRequest_map : (panelStatusRequest l b s).state.map = s.map :=
  needSession_map (needPayload_map fun _ => rfl)

theorem readMapRequest_map : (readMapRequest l b s).state.map = s.map := by
  refine needSession_map ?_
  split
  · rfl
  · exact needPayload_map fun _ => rfl

theorem targetsRequest_map (ev : RecordEvent) (visible : State → List SlotIx) :
    (targetsRequest ev visible l b s).state.map = s.map := by
  have hcounted : ∀ is, (s.deliverCounted ev l is).state.map = s.map := fun is => by simp [State.deliverCounted]
  refine needSession_map (needPrimary_map (needPayload_map fun targets => ?_))
  repeat' split
  · exact hcounted _
  · rfl
  · exact hcounted _

theorem silenceRequest_map : (silenceRequest l b s).state.map = s.map :=
  needSession_map (needPrimary_map (needPayload_map fun _ => by simp))

theorem retireRequest_map : (retireRequest l b s).state.map = s.map :=
  needSession_map (needPrimary_map (needPayload_map fun _ => needRecord_map fun _ => by simp))

theorem lampTestRequest_map : (lampTestRequest l b s).state.map = s.map := by
  refine needSession_map ?_
  split
  · exact needPayload_map fun _ => by simp
  · rfl

theorem configureRequest_map : (configureRequest l b s).state.map = s.map := by
  refine needSession_map (needPrimary_map (needPayload_map fun _ => ?_))
  simp only [Reply.ok_state, State.applyConfiguration]
  split <;> simp [State.storeConfiguration]

theorem restartRequest_map : (restartRequest l b s).state.map = s.map :=
  needSession_map (needPrimary_map (needPayload_map fun _ => needIdleCommit_map (by
    simp [State.restartTable, State.emptyChanged])))

end

/-! ### Key and timer events that leave the map alone -/

section
variable (s : State)

theorem State.recognise_map (key : KeyId) (c : Contact) {act : State → State} (hact : ∀ x, (act x).map = x.map) :
    (s.recognise key c act).map = s.map := by
  unfold State.recognise
  repeat' split
  · rfl
  · rfl
  · exact hact _

theorem State.chordPress_map (key : KeyId) : (s.chordPress key).map = s.map := by
  unfold State.chordPress
  split <;> rfl

theorem State.ackAction_map : s.ackAction.map = s.map := by
  unfold State.ackAction
  repeat' split
  all_goals simp [State.reportKey]

theorem State.silenceAction_map : s.silenceAction.map = s.map := by
  unfold State.silenceAction
  split <;> simp [State.reportKey]

theorem State.resetAction_map : s.resetAction.map = s.map := by
  unfold State.resetAction
  repeat' split
  all_goals simp [State.reportKey]

theorem State.testAction_map : s.testAction.map = s.map := by
  unfold State.testAction
  repeat' split
  all_goals simp [State.reportKey]

theorem State.testReleaseAction_map : s.testReleaseAction.map = s.map := by
  unfold State.testReleaseAction
  dsimp only
  repeat' split
  all_goals simp

theorem State.fireChord_map : s.fireChord.map = s.map := by
  unfold State.fireChord
  split <;> simp

theorem State.countTick_map : s.countTick.map = s.map :=
  rfl

theorem State.advanceFrame_map : s.advanceFrame.map = s.map := by
  rw [State.advanceFrame_spec]

theorem State.passTimedEnd_map : s.passTimedEnd.map = s.map := by
  unfold State.passTimedEnd
  repeat' split
  all_goals simp

theorem State.endHornPhase_map : s.endHornPhase.map = s.map := by
  unfold State.endHornPhase
  split <;> rfl

theorem State.takeSample_map (mv : Nat) : (s.takeSample mv).map = s.map := by
  simp only [State.takeSample, State.levelChanged]
  repeat' split
  all_goals simp

/-- A SEND restarts a keepalive and writes its port (R136, R143). -/
theorem State.sendFrame_map (l : Link) (bytes : List Byte) : (s.sendFrame l bytes).map = s.map := by
  have htaken : ∀ r, (s.takeIntoSlot l r).map = s.map := fun r => by
    unfold State.takeIntoSlot
    split <;> simp [State.setSlotOf]
  unfold State.sendFrame
  repeat' split
  · rfl
  · rfl
  · exact htaken _
  · exact htaken _

end

end Sys2Proof.Machine

/-! ## The Output Map: conflicts (R68, R74) -/

namespace Sys2Proof.Machine

theorem mem_groupsListing {m : Vector MapEntry 24} {p : Point} {g : Group} :
    g ∈ groupsListing m p ↔ p ∈ (m.get g).points := by
  simp [groupsListing, allGroups]

/-- The groups that list a point stand in ascending order. -/
theorem groupsListing_pairwise (m : Vector MapEntry 24) (p : Point) : (groupsListing m p).Pairwise (· < ·) :=
  (List.pairwise_lt_finRange 24).filter _

/-- A point is in no conflict when at most one group lists it. -/
theorem conflictAt_eq_none {m : Vector MapEntry 24} {p : Point} :
    conflictAt m p = none ↔ ∀ g h, p ∈ (m.get g).points → p ∈ (m.get h).points → g = h := by
  have hsorted := groupsListing_pairwise m p
  simp only [← mem_groupsListing]
  unfold conflictAt
  match groupsListing m p, hsorted with
  | [], _ => simp
  | [g], _ => simp +contextual
  | g :: h :: rest, hsorted =>
    have hlt : g < h := (List.pairwise_cons.mp hsorted).1 h (by simp)
    exact iff_of_false (by simp) fun hone => hlt.ne (hone g h (by simp) (by simp))

/-- A point's conflict names the two lowest groups that list it. -/
theorem conflictAt_eq_some {m : Vector MapEntry 24} {p : Point} {g h : Group} (hg : p ∈ (m.get g).points)
    (hh : p ∈ (m.get h).points) (hlt : g < h) (hlow : ∀ k, p ∈ (m.get k).points → k < h → k = g) :
    conflictAt m p = some (p, g, h) := by
  have hsorted := groupsListing_pairwise m p
  simp only [← mem_groupsListing] at hg hh hlow
  unfold conflictAt
  match groupsListing m p, hsorted, hg, hh, hlow with
  | [], _, hg, _, _ => simp at hg
  | [x], _, hg, hh, _ =>
    simp only [List.mem_singleton] at hg hh
    exact absurd (hg.trans hh.symm) hlt.ne
  | x :: y :: rest, hsorted, hg, hh, hlow =>
    obtain ⟨hx, hrest⟩ := List.pairwise_cons.mp hsorted
    have hxh : x < h := by
      rcases List.mem_cons.mp hg with rfl | hg
      · exact hlt
      · exact (hx g hg).trans hlt
    have hxg : x = g := hlow x (by simp) hxh
    have hyg : y ≠ g := hxg ▸ (hx y (by simp)).ne'
    have hhy : h ≤ y := le_of_not_gt fun hyh => hyg (hlow y (by simp) hyh)
    have hyh : y ≤ h := by
      rcases List.mem_cons.mp ((List.mem_cons.mp hh).resolve_left hxh.ne') with rfl | hh
      · exact le_rfl
      · exact ((List.pairwise_cons.mp hrest).1 h hh).le
    simp [hxg, le_antisymm hhy hyh]

/-- A map without a conflict is one in which no point belongs to two groups (R74). -/
theorem mapConflict_eq_none {m : Vector MapEntry 24} : mapConflict m = none ↔ PointsDisjoint m := by
  rw [mapConflict, List.findSome?_eq_none_iff]
  simp only [List.mem_finRange, forall_const, conflictAt_eq_none]
  exact ⟨fun h g k p => h p g k, fun h p g k => h g k p⟩

/-- The conflict of a map is that of its lowest conflicting point (R74). -/
theorem mapConflict_eq_some {m : Vector MapEntry 24} {p : Point} {x : Point × Group × Group}
    (hp : conflictAt m p = some x) (hlow : ∀ q < p, conflictAt m q = none) : mapConflict m = some x := by
  obtain ⟨before, rest, hsplit⟩ := List.append_of_mem (List.mem_finRange p)
  have hbefore : ∀ q ∈ before, q < p := fun q hq =>
    (List.pairwise_append.mp (hsplit ▸ List.pairwise_lt_finRange 96)).2.2 q hq p (by simp)
  rw [mapConflict, List.findSome?_eq_some_iff]
  exact ⟨before, p, rest, hsplit, hp, fun q hq => hlow q (hbefore q hq)⟩

end Sys2Proof.Machine

/-! ## The maps stay within their limits (R68, R71, R74, R76) -/

namespace Sys2Proof.Machine

namespace MapSound

/-! ### The writes of the map -/

section
variable {s t : State} (h : MapSound s)
include h

theorem of_map (e : t.map = s.map) : MapSound t :=
  ⟨e ▸ h.active, e ▸ h.staged, e ▸ h.pending⟩

/-- The staged map reset to the active one, whatever becomes of the commit. -/
theorem restaged {c : Commit} (e : t.map = { active := s.map.active, staged := s.map.active, commit := c }) :
    MapSound t where
  active := by simpa only [e] using h.active
  staged := by simpa only [e] using h.active.1
  pending _ := by simpa only [e] using h.active.2

/-- A commit ended with both maps kept. -/
theorem idled (e : t.map = { s.map with commit := .idle }) : MapSound t where
  active := by simpa only [e] using h.active
  staged := by simpa only [e] using h.staged
  pending hp := by rw [e] at hp; cases hp

/-- A PENDING commit completed: the staged map, valid since COMMIT_MAP, becomes the active one (R76). -/
theorem completed (hp : s.map.commit = .pending)
    (e : t.map = { s.map with active := s.map.staged, commit := .idle }) : MapSound t where
  active := by simpa only [e] using ⟨h.staged, h.pending hp⟩
  staged := by simpa only [e] using h.staged
  pending hp := by rw [e] at hp; cases hp

/-- A commit begun on a staged map without a conflict (R74, R75). -/
theorem committed (hnone : mapConflict s.map.staged = none) :
    MapSound (s.setMap { s.map with commit := .pending }) :=
  ⟨h.active, h.staged, fun _ => mapConflict_eq_none.mp hnone⟩

/-- One entry staged in IDLE, within the limits of R68 (R73). -/
theorem stageEntry (hidle : s.map.commit = .idle) (g : Group) {e : MapEntry} (hnodup : e.points.Nodup)
    (hlen : e.points.length ≤ 8) : MapSound (s.stageEntry g e) where
  active := h.active
  staged k := by
    have hget : (s.stageEntry g e).map.staged.get k = if g = k then e else s.map.staged.get k := by
      simp [State.stageEntry, Vector.get_eq_getElem, Vector.getElem_set, Fin.ext_iff]
    rw [hget]
    split
    · exact ⟨hnodup, hlen⟩
    · exact h.staged k
  pending hp := absurd (hidle.symm.trans hp) nofun

/-! ### Operations -/

theorem completeTakeover : MapSound s.completeTakeover := by
  unfold State.completeTakeover
  split
  · exact h
  · exact h.restaged ((State.answerExecuting_frame ..).2.2.2.2.1.trans (State.swapRoles_map ..))

theorem depart (l : Link) (all : Bool) (into : SessionState) (peer : PeerNotice) :
    MapSound (s.depart l all into peer).1 := by
  have hmap := s.depart_map l all into peer
  split at hmap
  · exact h.restaged hmap
  · exact h.of_map hmap

theorem expireKeepalive (l : Link) : MapSound (s.expireKeepalive l) := by
  unfold State.expireKeepalive
  split
  · exact h.depart ..
  · exact h

theorem takeDueExpiries : MapSound s.takeDueExpiries :=
  (List.foldlRecOn (motive := MapSound) _ _ h fun _ hx _ _ => hx.of_map (by simp)).expireKeepalive .a
    |>.expireKeepalive .b

theorem startFrame : MapSound s.startFrame := by
  have hadvanced : MapSound s.advanceFrame := h.of_map s.advanceFrame_map
  by_cases hends : s.panel.frame = 63 ∧ s.map.commit = .pending
  · rw [s.startFrame_spec.1 hends]
    have hp : s.advanceFrame.map.commit = .pending := by rw [s.advanceFrame_map, hends.2]
    exact hadvanced.completed hp (by simp)
  · rw [s.startFrame_spec.2 hends]
    exact hadvanced.of_map (by simp)

theorem resetSession (l : Link) : MapSound (s.resetSession l) := by
  unfold State.resetSession
  split
  · exact h
  · exact h.of_map (by simp)
  · exact h.depart ..
  · exact h.depart ..

theorem transact (l : Link) (kind : Byte) (bytes : List Byte) : MapSound (s.transact l kind bytes) := by
  have hopen : MapSound (s.openTransaction l bytes) := h.of_map rfl
  unfold State.transact
  dsimp only
  split
  · exact hopen
  · exact hopen.of_map rfl
  · exact hopen.of_map (State.sendFrame_map ..)
  · exact hopen.of_map rfl
  · exact (hopen.of_map (State.setPort_map ..)).resetSession l

/-! ### Requests that write the map -/

theorem attachRequest (l : Link) (b : List Byte) : MapSound (attachRequest l b s).state := by
  refine KeptByOperations.needPayload h fun p _ => ?_
  have hopened : MapSound (s.openSession l p) := by
    unfold State.openSession
    dsimp only
    split
    · exact h.restaged (State.changePrimary_map ..)
    · exact h.of_map rfl
  split
  · exact h
  · exact hopened.of_map (by simp)

theorem detachRequest (l : Link) (b : List Byte) : MapSound (detachRequest l b s).state := by
  refine KeptByOperations.needSession h fun _ => KeptByOperations.needPayload h fun all _ => ?_
  simpa only [Reply.ok_state] using h.depart l all .offline .left

theorem takeoverRequest (l : Link) (b : List Byte) : MapSound (takeoverRequest l b s).state := by
  have htaken : MapSound (s.takeRole l).state := by
    unfold State.takeRole
    repeat' split
    · exact h.restaged (State.changePrimary_map ..)
    · exact h.restaged (State.swapRoles_map ..)
    · exact h.of_map rfl
  refine KeptByOperations.needSession h fun _ => ?_
  split
  · exact h
  · refine KeptByOperations.needPayload h fun _ _ => ?_
    split
    · exact h
    · exact htaken

theorem yieldRequest (l : Link) (b : List Byte) : MapSound (yieldRequest l b s).state := by
  refine KeptByOperations.needSession h fun _ => KeptByOperations.needPrimary h
    (KeptByOperations.needPayload h fun _ _ => KeptByOperations.needIdleCommit h ?_)
  dsimp only
  split
  · exact h.restaged (State.promote_map ..)
  · exact h.restaged (State.changePrimary_map ..)

theorem stageMapRequest (l : Link) (b : List Byte) : MapSound (stageMapRequest l b s).state := by
  refine KeptByOperations.needSession h fun _ => KeptByOperations.needPrimary h
    (KeptByOperations.needPayload h fun p hp => ?_)
  obtain ⟨hlen, hnodup, -⟩ := parseStage_eq_some.mp hp
  unfold needIdleCommit
  split
  · next hidle => exact h.stageEntry hidle p.group hnodup hlen
  · exact h

theorem commitMapRequest (l : Link) (b : List Byte) : MapSound (commitMapRequest l b s).state := by
  refine KeptByOperations.needSession h fun _ => KeptByOperations.needPrimary h
    (KeptByOperations.needPayload h fun _ _ => KeptByOperations.needIdleCommit h ?_)
  split
  · exact h
  · next hnone => exact h.committed hnone

theorem abortMapRequest (l : Link) (b : List Byte) : MapSound (abortMapRequest l b s).state := by
  refine KeptByOperations.needSession h fun _ => KeptByOperations.needPrimary h
    (KeptByOperations.needPayload h fun _ _ => ?_)
  show MapSound s.abortMap
  unfold State.abortMap
  split
  · exact h.idled (State.commitEnded_frame _).2.2.2.2.1
  · exact h.restaged rfl

/-! ### Taking a command -/

theorem takeInside {f : State → State} (e : takeInside s f = .next t) (hf : ∀ x, MapSound x → MapSound (f x)) :
    MapSound t := by
  unfold Machine.takeInside at e
  split at e <;> cases e
  · exact h
  · exact hf _ h.completeTakeover

theorem takeOutside {dt : Nat} {f : State → State} (e : takeOutside dt s f = .next t)
    (hf : ∀ x, MapSound x → MapSound (f x)) : MapSound t :=
  h.takeInside e fun _ hx => hf _ (hx.of_map rfl)

/-- An event inside the part that leaves the map alone. -/
theorem takeInside_quiet {f : State → State} (e : Machine.takeInside s f = .next t) (hf : ∀ x, (f x).map = x.map) :
    MapSound t :=
  h.takeInside e fun x hx => hx.of_map (hf x)

theorem takeRequest {l : Link} {row : Request → Bool} {body : List Byte → State → Reply}
    (e : takeRequest l s row body = .next t) (hbody : ∀ b x, MapSound x → MapSound (body b x).state) :
    MapSound t := by
  refine h.takeInside e fun x hx => ?_
  have hfinish : ∀ (y : Reply) (r : Request), MapSound y.state → MapSound (y.finish l r) := fun y r hy => by
    unfold Reply.finish
    split
    · exact hy.of_map (by simp)
    · exact hy
  unfold State.execute
  repeat' split
  · exact hx
  · exact hfinish _ _ (hbody _ x hx)
  · exact hx

/-- A request that leaves the map alone. -/
theorem takeRequest_quiet {l : Link} {row : Request → Bool} {body : List Byte → State → Reply}
    (e : Machine.takeRequest l s row body = .next t) (hbody : ∀ b x, (body b x).state.map = x.map) : MapSound t :=
  h.takeRequest e fun b x hx => hx.of_map (hbody b x)

theorem exec {c : Instr} (e : exec c s = .next t) : MapSound t := by
  cases c with
  | peek dt l kind bytes =>
    simp only [Machine.exec, execPeek] at e
    refine h.takeOutside e fun x hx => ?_
    split
    · exact hx
    · exact hx.transact l _ bytes
  | send dt l bytes =>
    simp only [Machine.exec, execSend] at e
    exact h.takeOutside e fun _ hx => hx.transact l _ bytes
  | fetch dt l bytes =>
    simp only [Machine.exec, execFetch] at e
    exact h.takeOutside e fun _ hx => hx.transact l _ bytes
  | linkReset dt l bytes =>
    simp only [Machine.exec, execLinkReset] at e
    exact h.takeOutside e fun _ hx => hx.transact l _ bytes
  | unknownRequest l => exact h.takeRequest_quiet e fun _ _ => rfl
  | attach l => exact h.takeRequest e fun b _ hx => hx.attachRequest l b
  | detachWithdrawAll l => exact h.takeRequest e fun b _ hx => hx.detachRequest l b
  | detachLeave l => exact h.takeRequest e fun b _ hx => hx.detachRequest l b
  | ping l => exact h.takeRequest_quiet e (pingRequest_map l)
  | setAttention l => exact h.takeRequest_quiet e (setAttentionRequest_map l)
  | collect l => exact h.takeRequest_quiet e (collectRequest_map l)
  | permitGrant l => exact h.takeRequest_quiet e (permitRequest_map l)
  | permitWithdraw l => exact h.takeRequest_quiet e (permitRequest_map l)
  | takeover l => exact h.takeRequest e fun b _ hx => hx.takeoverRequest l b
  | takeoverComplete =>
    simp only [Machine.exec, execTakeoverComplete] at e
    exact h.takeInside_quiet e fun _ => rfl
  | yieldRole l => exact h.takeRequest e fun b _ hx => hx.yieldRequest l b
  | claimOrphan l => exact h.takeRequest_quiet e (claimRequest_map l)
  | post l => exact h.takeRequest_quiet e (postRequest_map l)
  | amend l => exact h.takeRequest_quiet e (amendRequest_map l)
  | clear l => exact h.takeRequest_quiet e (clearRequest_map l)
  | reassert l => exact h.takeRequest_quiet e (reassertRequest_map l)
  | withdraw l => exact h.takeRequest_quiet e (withdrawRequest_map l)
  | find l => exact h.takeRequest_quiet e (findRequest_map l)
  | query l => exact h.takeRequest_quiet e (queryRequest_map l)
  | listGroup l => exact h.takeRequest_quiet e (listGroupRequest_map l)
  | panelStatus l => exact h.takeRequest_quiet e (panelStatusRequest_map l)
  | readMap l => exact h.takeRequest_quiet e (readMapRequest_map l)
  | acknowledgeHandles l => exact h.takeRequest_quiet e fun b x => targetsRequest_map l b x ..
  | acknowledgeAllVisible l => exact h.takeRequest_quiet e fun b x => targetsRequest_map l b x ..
  | remoteResetHandles l => exact h.takeRequest_quiet e fun b x => targetsRequest_map l b x ..
  | remoteResetAllVisible l => exact h.takeRequest_quiet e fun b x => targetsRequest_map l b x ..
  | silence l => exact h.takeRequest_quiet e (silenceRequest_map l)
  | retire l => exact h.takeRequest_quiet e (retireRequest_map l)
  | stageMap l => exact h.takeRequest e fun b _ hx => hx.stageMapRequest l b
  | commitMap l => exact h.takeRequest e fun b _ hx => hx.commitMapRequest l b
  | abortMap l => exact h.takeRequest e fun b _ hx => hx.abortMapRequest l b
  | lampTest l => exact h.takeRequest_quiet e (lampTestRequest_map l)
  | configure l => exact h.takeRequest_quiet e (configureRequest_map l)
  | restart l => exact h.takeRequest_quiet e (restartRequest_map l)
  | ackKeyPress =>
    simp only [Machine.exec, execAckKeyPress] at e
    exact h.takeInside_quiet e fun x => x.recognise_map _ _ fun y => (State.ackAction_map _).trans (y.chordPress_map _)
  | silenceKeyPress =>
    simp only [Machine.exec, execSilenceKeyPress] at e
    exact h.takeInside_quiet e fun x => x.recognise_map _ _ State.silenceAction_map
  | resetKeyPress =>
    simp only [Machine.exec, execResetKeyPress] at e
    exact h.takeInside_quiet e fun x => x.recognise_map _ _ fun y => (State.resetAction_map _).trans (y.chordPress_map _)
  | testKeyPress =>
    simp only [Machine.exec, execTestKeyPress] at e
    exact h.takeInside_quiet e fun x => x.recognise_map _ _ State.testAction_map
  | testKeyRelease =>
    simp only [Machine.exec, execTestKeyRelease] at e
    exact h.takeInside_quiet e fun x => x.recognise_map _ _ State.testReleaseAction_map
  | ackKeyRelease =>
    simp only [Machine.exec, execAckKeyRelease] at e
    exact h.takeInside_quiet e fun x => x.recognise_map _ _ fun _ => rfl
  | resetKeyRelease =>
    simp only [Machine.exec, execResetKeyRelease] at e
    exact h.takeInside_quiet e fun x => x.recognise_map _ _ fun _ => rfl
  | silenceKeyRelease =>
    simp only [Machine.exec, execSilenceKeyRelease] at e
    exact h.takeInside_quiet e fun x => x.recognise_map _ _ fun _ => rfl
  | chordFire =>
    simp only [Machine.exec, execChordFire] at e
    exact h.takeInside_quiet e State.fireChord_map
  | tick =>
    simp only [Machine.exec, execTick] at e
    exact h.takeInside e fun _ hx => hx.takeDueExpiries.of_map (State.countTick_map _)
  | expire i =>
    simp only [Machine.exec, execExpire] at e
    exact h.takeInside_quiet e fun x => (x.expireSlot_frame i).2.2.2.1
  | keepaliveExpiry l =>
    simp only [Machine.exec, execKeepaliveExpiry] at e
    exact h.takeInside e fun _ hx => hx.expireKeepalive l
  | frameStart =>
    simp only [Machine.exec, execFrameStart] at e
    exact h.takeInside e fun _ hx => hx.startFrame
  | commitCompletion =>
    simp only [Machine.exec, execCommitCompletion] at e
    refine h.takeInside e fun x hx => ?_
    split
    · exact hx.startFrame
    · exact hx
  | lampTestEnd =>
    simp only [Machine.exec, execLampTestEnd] at e
    exact h.takeInside_quiet e State.passTimedEnd_map
  | supplySample mv =>
    simp only [Machine.exec, execSupplySample] at e
    exact h.takeInside_quiet e fun x => x.takeSample_map mv
  | hornPhaseEnd =>
    simp only [Machine.exec, execHornPhaseEnd] at e
    exact h.takeInside_quiet e State.endHornPhase_map
  | deviceReset =>
    cases e
    exact mapSound_reset.of_map rfl
  | resetRelease =>
    change execResetRelease s = .next t at e
    unfold execResetRelease at e
    split at e <;> cases e
    · exact h.of_map rfl
    · exact h
  | keyInputChange dt key c =>
    change execKeyInputChange dt key c s = .next t at e
    unfold execKeyInputChange at e
    split at e
    · cases e
      exact h.of_map rfl
    · exact h.takeOutside e fun _ hx => hx.of_map rfl

end

end MapSound

/-- Settles O59: the operations that write the map keep the invariant, and no other command touches the map. -/
theorem stepKeepsMaps : Obligations.StepKeepsMaps := by
  intro s t h e
  unfold step at e
  split at e
  · cases e
    exact h
  · exact (h.of_map (State.setPending_map ..)).exec e

end Sys2Proof.Machine

/-! ## STAGE_MAP, COMMIT_MAP and ABORT_MAP (R73–R75, R79) -/

namespace Sys2Proof.Machine

section
variable {l : Link} {s : State} {r : Request} (h : s.asks l r) (hc : s.commands l)
include h hc

/-- A well-formed request of the primary that a commit delays executes while the commit is IDLE. -/
theorem takeRequest_idle {row : Request → Bool} {body : List Byte → State → Reply} {α : Type} {p : Option α} {x : α}
    {y : α → Reply} (hrow : row r = true) (hidle : s.map.commit = .idle) (hp : p = some x)
    (hbody : body r.payload s =
      needSession s l (needPrimary s l (needPayload s p fun x => needIdleCommit s (y x)))) :
    takeRequest l s row body = .next ((y x).finish l r) := by
  rw [takeRequest_primary h hrow hc.1 hc.2 hbody, hp, needPayload_some, needIdleCommit_pass hidle]

/-- STAGE_MAP in IDLE replaces one staged entry (R73). -/
theorem exec_stageMap {p : StagePayload} (hcode : r.code = codeStageMap) (hp : parseStage r.payload = some p)
    (hidle : s.map.commit = .idle) :
    exec (.stageMap l) s = .next ((Reply.ok (s.stageEntry p.group p.entry) []).finish l r) :=
  takeRequest_idle h hc (hasCode_of_eq hcode) hidle (x := p) hp (body := stageMapRequest l)
    (y := fun p => .ok (s.stageEntry p.group p.entry) []) rfl

/-- COMMIT_MAP in IDLE of a staged map without a conflict makes the commit PENDING (R75). -/
theorem exec_commitMap_valid (hcode : r.code = codeCommitMap) (hp : r.payload = []) (hidle : s.map.commit = .idle)
    (hvalid : mapConflict s.map.staged = none) :
    exec (.commitMap l) s =
      .next { s with
        ports := s.portsAnswering l r .accepted []
        map := { s.map with commit := .pending } } := by
  refine (takeRequest_idle h hc (hasCode_of_eq hcode) hidle (x := ()) (body := commitMapRequest l)
    (by rw [hp]; rfl) rfl).trans ?_
  rw [hvalid]
  rfl

/-- COMMIT_MAP in IDLE of a staged map with a conflict is refused, the conflict in its answer (R74). -/
theorem exec_commitMap_conflict (hcode : r.code = codeCommitMap) (hp : r.payload = []) (hidle : s.map.commit = .idle)
    {p : Point} {g k : Group} (hconflict : mapConflict s.map.staged = some (p, g, k)) :
    exec (.commitMap l) s =
      .next { s with ports := s.portsAnswering l r .mapConflict [byteOf p.val, byteOf g.val, byteOf k.val] } := by
  refine (takeRequest_idle h hc (hasCode_of_eq hcode) hidle (x := ()) (body := commitMapRequest l)
    (by rw [hp]; rfl) rfl).trans ?_
  rw [hconflict]
  rfl

/-- ABORT_MAP answers OK, whatever the commit state (R79). -/
theorem exec_abortMap (hcode : r.code = codeAbortMap) (hp : r.payload = []) :
    exec (.abortMap l) s = .next ((Reply.ok s.abortMap []).finish l r) := by
  refine (takeRequest_primary h (hasCode_of_eq hcode) hc.1 hc.2 (body := abortMapRequest l) rfl).trans ?_
  rw [hp]
  rfl

end

/-- In IDLE the staged map is reset (R79). -/
theorem State.abortMap_idle {s : State} (hidle : s.map.commit = .idle) :
    s.abortMap = s.setMap { s.map with staged := s.map.active } := by
  simp only [State.abortMap, hidle]

/-- A commit that has ended hands a waiting TAKEOVER over to its completion (R164; assumption 6). -/
theorem State.commitEnded_eq {s : State} (hdue : s.sessions.takeoverDue = none) :
    s.commitEnded =
      s.setSessions { s.sessions with waiting := none, takeoverDue := s.sessions.waiting } := by
  obtain ⟨hwaits, hnone⟩ := s.commitEnded_spec
  cases hw : s.sessions.waiting with
  | none =>
    have heta : s.sessions =
        { s.sessions with waiting := s.sessions.waiting, takeoverDue := s.sessions.takeoverDue } := rfl
    rw [hw, hdue] at heta
    exact (hnone hw).trans (congrArg s.setSessions heta)
  | some l => exact hwaits l hw

/-- In PENDING the commit ends and both maps are kept (R79). -/
theorem State.abortMap_pending {s : State} (hpending : s.map.commit = .pending)
    (hdue : s.sessions.takeoverDue = none) :
    s.abortMap =
      { s with
        sessions := { s.sessions with waiting := none, takeoverDue := s.sessions.waiting }
        map := { s.map with commit := .idle } } := by
  simp only [State.abortMap, hpending]
  exact State.commitEnded_eq hdue

/-- Settles O32: each request by its equation, and COMMIT_MAP by the conflict of the staged map. -/
theorem mapRequestsMoveCommit : Obligations.MapRequestsMoveCommit := by
  refine ⟨fun l s r h hc => ⟨fun p hcode hp hidle => ?_, fun hcode hp hidle hdisjoint _ => ?_, fun hcode hp hidle => ?_,
    fun hcode hp hpending => ?_⟩, fun l s r p g k h hc hcode hp hidle hg hk hlt hlow hleast => ?_⟩
  · exact exec_stageMap h hc hcode hp hidle
  · exact exec_commitMap_valid h hc hcode hp hidle (mapConflict_eq_none.mpr hdisjoint)
  · rw [exec_abortMap h hc hcode hp, State.abortMap_idle hidle]
    rfl
  · rw [exec_abortMap h hc hcode hp, State.abortMap_pending hpending h.1.2]
    rfl
  · have hconflict := mapConflict_eq_some (conflictAt_eq_some hg hk hlt hlow) fun q hq =>
      conflictAt_eq_none.mpr (hleast q hq)
    exact exec_commitMap_conflict h hc hcode hp hidle hconflict

end Sys2Proof.Machine

/-! ## The completion of a commit (R75–R77, R84, R88) -/

namespace Sys2Proof.Machine

/-! ### The re-decision of all groups -/

theorem surfacedSlot_congr_before {s s' t : State} {g : Group} (h : s'.visibleSlot g = s.visibleSlot g) (j : SlotIx)
    (x : Slot) : surfacedSlot s' t g j x = surfacedSlot s t g j x := by
  unfold surfacedSlot
  rw [h]

/-- A re-decision depends on the slots and on what is visible before and after alone. -/
theorem State.redecidedSlot_congr {s s' t t' : State} (hs : SameView s s') (hslot : ∀ j, s'.slot j = s.slot j)
    (ht : SameView t t') (j : SlotIx) : s'.redecidedSlot t' j = s.redecidedSlot t j := by
  unfold State.redecidedSlot
  rw [State.record_of_slot (hslot j), hslot j]
  cases s.record j with
  | none => rfl
  | some r =>
    exact (surfacedSlot_congr_before (hs.visibleSlot _) ..).trans (surfacedSlot_congr (ht.visibleSlot _) ..)

theorem State.surfaceAll_redecided {before s : State} (h : s.table = before.table) (j : SlotIx) :
    (before.surfaceAll s).slot j = before.redecidedSlot (before.surfaceAll s) j := by
  have hslot : s.slot j = before.slot j := State.slot_congr (by rw [h]) j
  obtain ⟨hview, hsurfaced⟩ := State.surfaceAll_spec before s
  rw [hsurfaced j, State.redecidedSlot, State.record_of_slot hslot, hslot]
  cases before.record j with
  | none => rfl
  | some r => exact (surfacedSlot_congr (hview.visibleSlot _) ..).symm

theorem State.surfaceAll_low (before s : State) : (before.surfaceAll s).table.low = s.table.low :=
  List.foldlRecOn (motive := fun x => x.table.low = s.table.low) _ _ rfl fun x hx g _ =>
    (before.surface_low x g).trans hx

/-! ### The horn -/

/-- What the horn becomes is read from the horn before, and from what then demands it, the enable and the moment. -/
theorem State.hornAfter_congr {s s' t t' : State} (hs : s'.horn = s.horn) (hd : t'.decideHorn = t.decideHorn)
    (ht : t'.horn = t.horn) (hm : t'.time = t.time) : s'.hornAfter t' = s.hornAfter t := by
  simp only [State.hornAfter, hs, hd, ht, hm]

/-! ### The completion -/

theorem State.notifyPrimary_roles (s : State) (f : NoticeSet → NoticeSet) : s.sameRoles (s.notifyPrimary f) := by
  unfold State.notifyPrimary
  split
  · exact State.notify_roles ..
  · exact ⟨rfl, rfl, rfl, rfl⟩

theorem State.commitEnded_session (s : State) (m : Link) : s.commitEnded.session m = s.session m := by
  unfold State.commitEnded
  split <;> rfl

/-- The first stages of a completion: the staged map copied and the groups re-decided (R76). -/
def State.copied (s : State) : State :=
  s.surfaceAll (s.setMap { s.map with active := s.map.staged, commit := .idle })

/-- The stages of a completion before the horn's: the primary told, the commit ended (R76). -/
def State.committed (s : State) : State :=
  (s.copied.notifyPrimary (.putMap .committed)).commitEnded

theorem State.completeCommit_eq (s : State) : s.completeCommit = s.committed.redecideHorn := rfl

theorem State.copied_frame (s : State) :
    s.copied.sessions = s.sessions ∧ s.copied.horn = s.horn ∧ s.copied.supply = s.supply ∧
      s.copied.map = { s.map with active := s.map.staged, commit := .idle } := by
  simp [State.copied]

/-- The table of a completion is that of the re-decision. -/
theorem State.completeCommit_table (s : State) : s.completeCommit.table = s.copied.table := by
  simp [State.completeCommit_eq, State.committed]

theorem State.copied_view (s : State) : SameView s.copied s.completeCommit := by
  obtain ⟨-, -, hsupply, hmap⟩ := s.copied_frame
  obtain ⟨-, -, -, hmap', -, -, hsupply', -⟩ := s.completeCommit_frame
  exact .of_fields s.completeCommit_table (by rw [hmap, hmap']) (hsupply'.trans hsupply.symm)

theorem State.completeCommit_slot (s : State) (j : SlotIx) :
    s.completeCommit.slot j = s.redecidedSlot s.completeCommit j := by
  calc s.completeCommit.slot j
    _ = s.copied.slot j := State.slot_congr (by rw [s.completeCommit_table]) j
    _ = s.redecidedSlot s.copied j := State.surfaceAll_redecided (State.setMap_table ..) j
    _ = s.redecidedSlot s.completeCommit j :=
      (State.redecidedSlot_congr (.refl s) (fun _ => rfl) s.copied_view j).symm

theorem State.completeCommit_arrival (s : State) : s.completeCommit.table.arrival = s.table.arrival := by
  rw [s.completeCommit_table, State.copied, (State.surfaceAll_spec ..).1.arrival, State.setMap_table]

theorem State.completeCommit_low (s : State) : s.completeCommit.table.low = s.table.low := by
  rw [s.completeCommit_table, State.copied, State.surfaceAll_low, State.setMap_table]

/-- MAP committed reaches the primary in session, and no link else changes (R77). -/
theorem State.completeCommit_session (s : State) (m : Link) :
    s.completeCommit.session m =
      if s.sessions.primary = some m ∧ s.inSession m = true then
        { s.session m with notices := { (s.session m).notices with map := some .committed } }
      else s.session m := by
  have hcopied := s.copied_frame.1
  have hcommitted : s.completeCommit.session m = s.committed.session m := by
    rw [s.completeCommit_eq]
    exact State.session_congr (by simp) m
  rw [hcommitted, State.committed, State.commitEnded_session, State.notifyPrimary_session, hcopied,
    State.inSession_congr hcopied, State.session_congr hcopied, NoticeSet.putMap]

/-- The roles of a completion: a waiting TAKEOVER is handed over for its swap (R76; assumption 6). -/
theorem State.completeCommit_roles {s : State} (hdue : s.sessions.takeoverDue = none) :
    s.completeCommit.sessions.primary = s.sessions.primary ∧ s.completeCommit.sessions.permit = s.sessions.permit ∧
      s.completeCommit.sessions.waiting = none ∧ s.completeCommit.sessions.takeoverDue = s.sessions.waiting := by
  obtain ⟨hprimary, hpermit, hwaiting, hdue'⟩ := s.copied.notifyPrimary_roles (.putMap .committed)
  rw [s.copied_frame.1] at hprimary hpermit hwaiting hdue'
  have hsessions : s.completeCommit.sessions = s.committed.sessions := by
    rw [s.completeCommit_eq]
    simp
  rw [hsessions, State.committed, State.commitEnded_eq (hdue'.trans hdue), State.setSessions_sessions]
  dsimp only
  exact ⟨hprimary, hpermit, rfl, hwaiting⟩

/-- The horn is re-decided once, from what it was (R76, R116). -/
theorem State.completeCommit_horn (s : State) :
    s.completeCommit.horn = s.hornAfter s.completeCommit ∧ s.completeCommit.horn.enable = s.horn.enable := by
  have hhorn : s.committed.horn = s.horn := by simp [State.committed, s.copied_frame.2.1]
  rw [s.completeCommit_eq]
  exact ⟨s.committed.redecideHorn_hornAfter.trans (State.hornAfter_congr hhorn.symm rfl rfl rfl).symm,
    s.committed.redecideHorn_spec.2.1.trans (congrArg HornDriver.enable hhorn)⟩

/-! ### The frame 0 that completes a commit -/

/-- The frame that a PENDING commit waits for (R75, R76). -/
theorem exec_completesCommit {c : Instr} {s : State} (hc : c = .frameStart ∨ c = .commitCompletion) (h : s.ready)
    (hframe : s.panel.frame = 63) (hpending : s.map.commit = .pending) :
    exec c s = .next s.advanceFrame.completeCommit.composeFrame := by
  have hstart := s.startFrame_spec.1 ⟨hframe, hpending⟩
  rcases hc with rfl | rfl
  · exact (takeInside_ready h State.startFrame).trans (congrArg _ hstart)
  · refine (takeInside_ready h fun x => if x.endsCommit then x.startFrame else x).trans (congrArg _ ?_)
    exact (if_pos (State.endsCommit_iff.mpr ⟨hframe, hpending⟩)).trans hstart

/-- Where the next frame completes no commit, COMMIT_COMPLETION changes nothing (assumption 2). -/
theorem exec_commitCompletion_idle {s : State} (h : s.ready) (hnone : s.panel.frame ≠ 63 ∨ s.map.commit = .idle) :
    exec .commitCompletion s = .next s := by
  refine (takeInside_ready h fun x => if x.endsCommit then x.startFrame else x).trans (congrArg _ (if_neg ?_))
  rw [State.endsCommit_iff]
  rintro ⟨hframe, hpending⟩
  rcases hnone with hne | hidle
  · exact hne hframe
  · exact absurd (hidle.symm.trans hpending) nofun

/-- The last frame of a cadence cycle passes to frame 0 of the next (R85). -/
theorem State.advanceFrame_last {s : State} (hframe : s.panel.frame = 63) :
    s.advanceFrame =
      { s with
        time :=
          { s.time with
            clock := max s.time.clock (1000000 * (s.time.cycles + 1))
            cycles := s.time.cycles + 1 }
        panel := { s.panel with frame := 0 } } := by
  have hnext : (63 : Frame) + 1 = 0 := by decide
  have hmoment : 1000000 * s.time.cycles + 15625 * ((63 : Frame).val + 1) = 1000000 * (s.time.cycles + 1) := by
    change 1000000 * s.time.cycles + 15625 * 64 = _
    omega
  rw [State.advanceFrame_spec, hframe, hmoment, hnext, if_pos rfl]

/-- A frame composed leaves the counter and the lamp test alone (R87). -/
theorem State.composeFrame_panel (s : State) :
    s.composeFrame.panel = { s.panel with points := s.composeFrame.compose } :=
  rfl

/-- Composing a frame changes nothing that the Resolver or the horn reads. -/
theorem State.composeFrame_view (s : State) : SameView s s.composeFrame :=
  .of_fields (by simp) (by simp) (by simp)

/-- Settles O45: the advance to frame 0, the completion and the composition, of which the completion alone touches the
table, the links and the horn. -/
theorem commitCompletionCopiesMap : Obligations.CommitCompletionCopiesMap := by
  refine ⟨fun c s hc h hframe hpending => ⟨_, exec_completesCommit hc h hframe hpending, ?_⟩,
    fun s h hnone => exec_commitCompletion_idle h hnone⟩
  have hadvanced := State.advanceFrame_last hframe
  generalize s.advanceFrame = a at hadvanced ⊢
  have hsessions : a.sessions = s.sessions := by rw [hadvanced]
  have htable : a.table = s.table := by rw [hadvanced]
  have hbefore : SameView s a := .of_fields htable (by rw [hadvanced]) (by rw [hadvanced])
  -- the completion
  obtain ⟨held, time, ports, map, panel, keys, supply, pending⟩ := a.completeCommit_frame
  obtain ⟨hprimary, hpermit, hwaiting, htakeover⟩ := State.completeCommit_roles (s := a) (by rw [hsessions, h.2])
  obtain ⟨hhorn, henable⟩ := a.completeCommit_horn
  have hslot := a.completeCommit_slot
  have harrival := a.completeCommit_arrival
  have hlow := a.completeCommit_low
  have hsession := a.completeCommit_session
  generalize a.completeCommit = done at *
  -- the composition
  obtain ⟨held', time', ports', sessions', table', map', keys', horn', supply', pending'⟩ := done.composeFrame_frame
  have hpanel := done.composeFrame_panel
  have hafter := done.composeFrame_view
  generalize done.composeFrame = t at *
  have hdemand : t.decideHorn = done.decideHorn :=
    hafter.decideHorn (State.record_congr (by rw [table'])) (by rw [horn'])
  rw [← sessions', hsessions] at hprimary hpermit htakeover
  refine ⟨by rw [map', map, hadvanced], fun j => ?_, by rw [table', harrival, htable], by rw [table', hlow, htable],
    fun m => ?_, hprimary, hpermit, by rw [sessions', hwaiting], htakeover, ?_, by rw [horn', henable, hadvanced],
    by rw [hpanel, panel, hadvanced], by rw [time', time, hadvanced], by rw [ports', ports, hadvanced],
    by rw [held', held, hadvanced], by rw [keys', keys, hadvanced], by rw [supply', supply, hadvanced],
    by rw [pending', pending, hadvanced]⟩
  · calc t.slot j
      _ = done.slot j := State.slot_congr (by rw [table']) j
      _ = a.redecidedSlot done j := hslot j
      _ = s.redecidedSlot t j :=
        State.redecidedSlot_congr hbefore (State.slot_congr (by rw [htable])) hafter.symm j
  · rw [State.session_congr sessions', hsession, State.session_congr hsessions, State.inSession_congr hsessions,
      hsessions]
  · calc t.horn
      _ = a.hornAfter done := horn'.trans hhorn
      _ = s.hornAfter t := State.hornAfter_congr (by rw [hadvanced]) hdemand.symm horn'.symm time'.symm

end Sys2Proof.Machine

/-! ## Lamp test, supply and keys stay consistent (R90, R100, R101, R111, R124)

The invariant reads the lamp test, the supply, the Key Port and whether the part is held: the controls of the panel. It is
three separate claims, one for each, so each claim is shown for the block's own operations, and every operation that leaves
the controls alone keeps all three. -/

namespace Sys2Proof.Machine

/-! ### The lamp test (R90, R91, R126) -/

/-- The lamp test at a supply level: an IDLE test holds nothing, a RUNNING one has a timed end and is below CRITICAL. -/
structure Lamp.Sound (x : Lamp) (level : Level) : Prop where
  idle : x.running = false → x = .idle
  running : x.running = true → x.timedEnd.isSome = true
  critical : level = .critical → x.running = false

theorem Lamp.sound_idle (level : Level) : Lamp.idle.Sound level where
  idle _ := rfl
  running h := nomatch h
  critical _ := rfl

theorem Lamp.sound_running {level : Level} (hlevel : level ≠ .critical) (e : Nat) (hold : Bool) :
    ({ running := true, timedEnd := some e, keyHold := hold } : Lamp).Sound level where
  idle h := nomatch h
  running _ := rfl
  critical h := absurd h hlevel

theorem Lamp.Sound.extended {x : Lamp} {level : Level} (h : x.Sound level) (hrun : x.running = true) (e : Nat)
    (hold : Bool) : ({ x.extend e with keyHold := hold } : Lamp).Sound level where
  idle hidle := absurd (hrun.symm.trans hidle) nofun
  running _ := rfl
  critical := h.critical

/-- A key hold matters to no clause of a RUNNING test. -/
theorem Lamp.Sound.rekeyed {x : Lamp} {level : Level} (h : x.Sound level) (hrun : x.running = true) (hold : Bool) :
    ({ x with keyHold := hold } : Lamp).Sound level where
  idle hidle := absurd (hrun.symm.trans hidle) nofun
  running := h.running
  critical := h.critical

/-- The end of a test leaves it IDLE, as it was if none ran (R90). -/
theorem State.endLamp_lamp {s : State} {level : Level} (h : s.panel.lamp.Sound level) :
    s.endLamp.panel.lamp = .idle := by
  rw [State.endLamp_panel]
  cases hrun : s.panel.lamp.running with
  | true => rfl
  | false => simpa using h.idle hrun

/-- A test stands at every level but CRITICAL. -/
theorem Lamp.Sound.at_level {x : Lamp} {level level' : Level} (h : x.Sound level) (hlevel : level' ≠ .critical) :
    x.Sound level' :=
  ⟨h.idle, h.running, fun e => absurd e hlevel⟩

/-! ### The supply (R124) -/

/-- Nothing is counted towards a rise at NORMAL. -/
def SupplyMonitor.Sound (m : SupplyMonitor) : Prop := m.level = .normal → m.recovery = 0

theorem SupplyMonitor.sound_of_recovery {m : SupplyMonitor} (h : m.recovery = 0) : m.Sound := fun _ => h

/-- A sample that qualifies at LOW or CRITICAL counts one, or raises the level and clears the count. -/
theorem SupplyMonitor.sound_qualifies {m : SupplyMonitor} (h : m.level ≠ .normal) (upTo : Level) :
    (qualifies m upTo).Sound := by
  unfold qualifies
  split
  · exact sound_of_recovery rfl
  · exact fun e => absurd e h

theorem SupplyMonitor.sound_sample (m : SupplyMonitor) (mv : Nat) : (m.sample mv).Sound := by
  unfold SupplyMonitor.sample
  split
  · repeat' split
    all_goals exact sound_of_recovery rfl
  · next hlow =>
    split
    · exact sound_of_recovery rfl
    · split
      · exact sound_qualifies (by simp [hlow]) _
      · exact sound_of_recovery rfl
  · next hcritical =>
    split
    · exact sound_qualifies (by simp [hcritical]) _
    · exact sound_of_recovery rfl

/-! ### The keys (R100, R101, R111) -/

/-- A key is being debounced exactly while its input differs from its debounced state (R100). -/
def KeyPort.Timed (p : KeyPort) : Prop := ∀ k, (p.timing.get k).isSome = true ↔ p.pins.get k ≠ p.debounced.get k

/-- A chord timer out of IDLE has both its keys CLOSED and is enabled (R111). -/
def KeyPort.ChordHeld (p : KeyPort) : Prop :=
  p.chord ≠ .idle → p.debounced.ack = .closed ∧ p.debounced.reset = .closed ∧ p.chordEnable = true

/-- The Key Port of a running part, or of one held in device reset, where no key is CLOSED (R101). -/
structure KeyPort.Sound (p : KeyPort) (held : Bool) : Prop where
  chord : p.ChordHeld
  timed : held = false → p.Timed
  opened : held = true → ∀ k, p.debounced.get k = .opened

/-- A contact has two positions. -/
theorem Contact.eq_of_ne_of_ne {a b c : Contact} (hab : a ≠ b) (hbc : b ≠ c) : a = c :=
  match a, b, c with
  | .opened, _, .opened => rfl
  | .closed, _, .closed => rfl
  | .opened, .opened, .closed => absurd rfl hab
  | .opened, .closed, .closed => absurd rfl hbc
  | .closed, .closed, .opened => absurd rfl hab
  | .closed, .opened, .opened => absurd rfl hbc

/-- A key recognised stands as its input, which differed from its debounced state (R100). -/
theorem KeyPort.Timed.recognised {p : KeyPort} (h : p.Timed) {k : KeyId} {c : Contact}
    (htimed : (p.timing.get k).isSome = true) (hdiffers : p.debounced.get k ≠ c) : (p.recognised k c).Timed := by
  intro j
  have hpin : p.pins.get k = c := Contact.eq_of_ne_of_ne ((h k).mp htimed) hdiffers
  simp only [KeyPort.recognised, PerKey.get_set]
  split
  · next hj => simp [hj, hpin]
  · exact h j

/-- A debounce begins where the input comes to differ, and ends where it comes to agree (R100). -/
theorem KeyPort.Timed.changed {p : KeyPort} (h : p.Timed) (k : KeyId) (c : Contact) (clock : Nat) :
    (p.changeInput k c clock).Timed := by
  unfold KeyPort.changeInput
  split
  · exact h
  · intro j
    simp only [PerKey.get_set]
    split
    · next hj =>
      subst hj
      by_cases hc : p.debounced.get j = c
      · simp [hc]
      · simp [hc, Ne.symm hc]
    · exact h j

/-- A recognised press opens no key. -/
theorem KeyPort.ChordHeld.pressed {p : KeyPort} (h : p.ChordHeld) (k : KeyId) : (p.recognised k .closed).ChordHeld := by
  intro hchord
  obtain ⟨hack, hreset, henable⟩ := h hchord
  cases k <;> simp [KeyPort.recognised, PerKey.set, hack, hreset, henable]

/-- A recognised release of a key outside the chord opens neither of its keys. -/
theorem KeyPort.ChordHeld.released {p : KeyPort} (h : p.ChordHeld) {k : KeyId} (hk : k = .silence ∨ k = .test) :
    (p.recognised k .opened).ChordHeld := by
  rcases hk with rfl | rfl <;> exact h

theorem KeyPort.ChordHeld.changed {p : KeyPort} (h : p.ChordHeld) (k : KeyId) (c : Contact) (clock : Nat) :
    (p.changeInput k c clock).ChordHeld := by
  unfold KeyPort.changeInput
  split <;> exact h

/-- Turning the chord off returns its timer to IDLE (R111, R119). -/
theorem KeyPort.ChordHeld.configured {p : KeyPort} (h : p.ChordHeld) (x : ConfigurePayload) :
    (p.configure x).ChordHeld := by
  intro hchord
  unfold KeyPort.configure at hchord ⊢
  dsimp only at hchord ⊢
  split at hchord
  · exact absurd rfl hchord
  · next hstays =>
    obtain ⟨hack, hreset, henable⟩ := h hchord
    exact ⟨hack, hreset, by simpa [henable] using hstays⟩

/-! ### The invariant by its parts -/

theorem panelSound_iff {s : State} :
    PanelSound s ↔ s.panel.lamp.Sound s.supply.level ∧ s.supply.Sound ∧ s.keys.Sound s.held := by
  constructor
  · rintro ⟨idle, running, critical, recovery, chord, timing, held⟩
    exact ⟨⟨idle, running, critical⟩, recovery, chord, timing, held⟩
  · rintro ⟨⟨idle, running, critical⟩, recovery, chord, timing, held⟩
    exact ⟨idle, running, critical, recovery, chord, timing, held⟩

/-- What the invariant reads of a state. -/
def State.controls (s : State) : Bool × Lamp × SupplyMonitor × KeyPort := (s.held, s.panel.lamp, s.supply, s.keys)

theorem State.controls_eq_iff {s t : State} : t.controls = s.controls ↔
    t.held = s.held ∧ t.panel.lamp = s.panel.lamp ∧ t.supply = s.supply ∧ t.keys = s.keys := by
  simp [State.controls]

theorem PanelSound.of_controls {s t : State} (h : PanelSound s) (e : t.controls = s.controls) : PanelSound t := by
  obtain ⟨held, lamp, supply, keys⟩ := State.controls_eq_iff.mp e
  rw [panelSound_iff, held, lamp, supply, keys]
  exact panelSound_iff.mp h

/-! ### Operations that leave the controls alone -/

section
variable (s : State) (l : Link)

theorem State.departRecords_controls (all : Bool) : (s.departRecords l all).1.controls = s.controls := by
  unfold State.departRecords
  refine List.foldlRecOn (motive := fun acc : State × Tally => acc.1.controls = s.controls) _ _ rfl
    fun acc hacc i _ => ?_
  rw [← hacc]
  rcases departSlot_cases l all acc i with ⟨e, -⟩ | ⟨r, -, -, e | e | ⟨-, -, e⟩⟩ <;> rw [e] <;> simp [State.controls]

theorem State.depart_controls (all : Bool) (into : SessionState) (peer : PeerNotice) :
    (s.depart l all into peer).1.controls = s.controls := by
  have hdealt := (s.cancelRequest l).departRecords_controls l all
  rw [State.controls_eq_iff] at hdealt ⊢
  unfold State.depart
  split <;> simp [hdealt]

theorem State.expireKeepalive_controls : (s.expireKeepalive l).controls = s.controls := by
  unfold State.expireKeepalive
  split
  · exact s.depart_controls ..
  · rfl

theorem State.takeDueExpiries_controls : s.takeDueExpiries.controls = s.controls := by
  have hslots : (allSlots.foldl State.expireSlot s).controls = s.controls :=
    foldl_keeps _ State.controls (fun _ _ => by simp [State.controls]) _ s
  exact (State.expireKeepalive_controls ..).trans ((State.expireKeepalive_controls ..).trans hslots)

theorem State.countTick_controls : s.countTick.controls = s.controls :=
  rfl

theorem State.startFrame_controls : s.startFrame.controls = s.controls := by
  simp only [State.startFrame, State.composeFrame, State.advanceFrame_spec, State.controls]
  split <;> simp

theorem State.endHornPhase_controls : s.endHornPhase.controls = s.controls := by
  unfold State.endHornPhase
  split <;> rfl

theorem State.resetSession_controls : (s.resetSession l).controls = s.controls := by
  unfold State.resetSession
  split
  · rfl
  · simp [State.controls]
  · exact s.depart_controls ..
  · exact s.depart_controls ..

theorem State.sendFrame_controls (bytes : List Byte) : (s.sendFrame l bytes).controls = s.controls := by
  have htaken : ∀ r, (s.takeIntoSlot l r).controls = s.controls := fun r => by
    unfold State.takeIntoSlot
    split <;> simp [State.controls, State.setSlotOf]
  unfold State.sendFrame
  repeat' split
  · rfl
  · rfl
  · exact htaken _
  · exact htaken _

theorem State.transact_controls (kind : Byte) (bytes : List Byte) : (s.transact l kind bytes).controls = s.controls := by
  unfold State.transact
  dsimp only
  split
  · rfl
  · rfl
  · exact State.sendFrame_controls ..
  · rfl
  · exact State.resetSession_controls ..

theorem State.ackAction_controls : s.ackAction.controls = s.controls := by
  unfold State.ackAction
  repeat' split
  all_goals simp [State.controls, State.reportKey]

theorem State.silenceAction_controls : s.silenceAction.controls = s.controls := by
  unfold State.silenceAction
  split <;> simp [State.controls, State.reportKey]

theorem State.resetAction_controls : s.resetAction.controls = s.controls := by
  unfold State.resetAction
  repeat' split
  all_goals simp [State.controls, State.reportKey]

end

namespace PanelSound

/-! ### Requests that leave the controls alone -/

section
variable {s : State} (h : PanelSound s) (l : Link) (b : List Byte)
include h

/-- A request behind the session check (R181 step 2). -/
theorem sessionRequest {α : Type} {p : Option α} {y : α → Reply} (hy : ∀ x, PanelSound (y x).state) :
    PanelSound (needSession s l (needPayload s p y)).state :=
  KeptByOperations.needSession h fun _ => KeptByOperations.needPayload h fun x _ => hy x

/-- A request of the primary (R181 step 3). -/
theorem primaryRequest {α : Type} {p : Option α} {y : α → Reply} (hy : ∀ x, PanelSound (y x).state) :
    PanelSound (needSession s l (needPrimary s l (needPayload s p y))).state :=
  KeptByOperations.needSession h fun _ => KeptByOperations.needPrimary h
    (KeptByOperations.needPayload h fun x _ => hy x)

/-- The requests of a record's owner hand the record to one operation that leaves the controls alone. -/
theorem ownerRequest {α : Type} {p : Option α} {f : α → Handle} {y : α → Record → Reply} {o : Option Link}
    (hy : ∀ x r, (y x r).state.controls = s.controls) :
    PanelSound
      (needSession s l (needPayload s p fun x => needRecord s (f x) fun r => needOwner s r o (y x r))).state :=
  h.sessionRequest l fun x => KeptByOperations.needRecord h fun r _ => KeptByOperations.needOwner h fun _ =>
    h.of_controls (hy x r)

theorem attachRequest : PanelSound (attachRequest l b s).state := by
  refine KeptByOperations.needPayload h fun p _ => ?_
  have hopened : (s.openSession l p).controls = s.controls := by
    unfold State.openSession
    dsimp only
    split <;> rfl
  split
  · exact h
  · exact (h.of_controls hopened).of_controls (by simp [State.controls])

theorem detachRequest : PanelSound (detachRequest l b s).state := by
  refine h.sessionRequest l fun all => ?_
  simpa only [Reply.ok_state] using h.of_controls (s.depart_controls l all .offline .left)

theorem setAttentionRequest : PanelSound (setAttentionRequest l b s).state :=
  h.sessionRequest l fun _ => h.of_controls rfl

theorem collectRequest : PanelSound (collectRequest l b s).state :=
  h.sessionRequest l fun _ =>
    h.of_controls (by simp [State.controls, State.collected, State.freeReportedAll_frame])

theorem permitRequest : PanelSound (permitRequest l b s).state := by
  refine h.primaryRequest l fun grant => ?_
  have hgrant : (s.grantPermit l).controls = s.controls := by simp [State.controls, State.grantPermit]
  have hwithdraw : s.withdrawPermit.controls = s.controls := by
    unfold State.withdrawPermit
    dsimp only
    repeat' split
    all_goals simp [State.controls]
  repeat' split
  · exact h.of_controls hgrant
  · exact h
  · exact h.of_controls hwithdraw

theorem takeoverRequest : PanelSound (takeoverRequest l b s).state := by
  have htaken : (s.takeRole l).state.controls = s.controls := by
    unfold State.takeRole
    repeat' split
    all_goals simp [State.controls, Reply.waits]
  refine KeptByOperations.needSession h fun _ => ?_
  split
  · exact h
  · refine KeptByOperations.needPayload h fun _ _ => ?_
    split
    · exact h
    · exact h.of_controls htaken

theorem yieldRequest : PanelSound (yieldRequest l b s).state := by
  refine h.primaryRequest l fun _ => KeptByOperations.needIdleCommit h ?_
  dsimp only
  split <;> exact h.of_controls (by simp [State.controls])

theorem claimRequest : PanelSound (claimRequest l b s).state := by
  refine h.primaryRequest l fun _ => KeptByOperations.needRecord h fun _ _ =>
    KeptByOperations.needOwner h fun _ => ?_
  split
  · exact h
  · exact h.of_controls (by simp [State.controls])

theorem postRequest : PanelSound (postRequest l b s).state := by
  refine h.sessionRequest l fun _ => ?_
  repeat' split
  · exact h
  · exact h
  · exact h
  · exact h.of_controls (by simp [State.controls, State.allocate])

theorem amendRequest : PanelSound (amendRequest l b s).state :=
  h.ownerRequest l fun _ _ => by simp [State.controls]

theorem clearRequest : PanelSound (clearRequest l b s).state :=
  h.ownerRequest l fun _ _ => by simp [State.controls]

theorem reassertRequest : PanelSound (reassertRequest l b s).state :=
  h.ownerRequest l fun _ _ => by split <;> simp [State.controls]

theorem withdrawRequest : PanelSound (withdrawRequest l b s).state :=
  h.ownerRequest l fun _ _ => by simp [State.controls]

theorem targetsRequest (ev : RecordEvent) (visible : State → List SlotIx) :
    PanelSound (targetsRequest ev visible l b s).state := by
  have hcounted : ∀ is, PanelSound (s.deliverCounted ev l is).state := fun is =>
    h.of_controls (by simp [State.controls, State.deliverCounted])
  refine h.primaryRequest l fun targets => ?_
  repeat' split
  · exact hcounted _
  · exact h
  · exact hcounted _

theorem silenceRequest : PanelSound (silenceRequest l b s).state :=
  h.primaryRequest l fun _ => h.of_controls (by simp [State.controls])

theorem retireRequest : PanelSound (retireRequest l b s).state :=
  h.primaryRequest l fun _ => KeptByOperations.needRecord h fun _ _ => h.of_controls (by simp [State.controls])

theorem stageMapRequest : PanelSound (stageMapRequest l b s).state :=
  h.primaryRequest l fun _ => KeptByOperations.needIdleCommit h (h.of_controls rfl)

theorem commitMapRequest : PanelSound (commitMapRequest l b s).state := by
  refine h.primaryRequest l fun _ => KeptByOperations.needIdleCommit h ?_
  split <;> exact h.of_controls rfl

theorem abortMapRequest : PanelSound (abortMapRequest l b s).state := by
  refine h.primaryRequest l fun _ => h.of_controls ?_
  show s.abortMap.controls = s.controls
  unfold State.abortMap
  split <;> simp [State.controls]

end

/-! ### Operations on the lamp test -/

section
variable {s t : State} (h : PanelSound s)
include h

/-- The lamp test alone is written. -/
theorem of_lamp {x : Lamp} (hx : x.Sound s.supply.level) (e : t.controls = (s.setLamp x).controls) : PanelSound t := by
  obtain ⟨-, supply, keys⟩ := panelSound_iff.mp h
  exact (panelSound_iff.mpr ⟨hx, supply, keys⟩ : PanelSound (s.setLamp x)).of_controls e

/-- A start or joining below CRITICAL (R91, R95). -/
theorem startLamp (hlevel : s.supply.level ≠ .critical) (e : Nat) (hold : Bool) : PanelSound (s.startLamp e hold) := by
  obtain ⟨lamp, -, -⟩ := panelSound_iff.mp h
  rw [State.startLamp_spec]
  split
  · next hrun => exact h.of_lamp (lamp.extended hrun e _) rfl
  · exact h.of_lamp (Lamp.sound_running hlevel e hold) rfl

theorem endLamp : PanelSound s.endLamp :=
  h.of_lamp (Lamp.sound_idle _) (by simp [State.controls, State.endLamp_lamp (panelSound_iff.mp h).1])

theorem passTimedEnd : PanelSound s.passTimedEnd := by
  have hreached : ∀ e, PanelSound (s.reach e) := fun _ => h.of_controls rfl
  unfold State.passTimedEnd
  repeat' split
  · exact h
  · exact hreached _
  · exact (hreached _).endLamp
  · exact h

theorem testAction : PanelSound s.testAction := by
  unfold State.testAction
  repeat' split
  · exact h.of_controls (by simp [State.controls, State.reportKey])
  · exact h
  · next hlevel => exact h.startLamp hlevel _ _

theorem testReleaseAction : PanelSound s.testReleaseAction := by
  unfold State.testReleaseAction
  dsimp only
  split
  · next hheld =>
    have hcleared : PanelSound (s.setLamp { s.panel.lamp with keyHold := false }) :=
      h.of_lamp ((panelSound_iff.mp h).1.rekeyed hheld.1 false) rfl
    split
    · exact hcleared.endLamp
    · exact hcleared
  · exact h

theorem lampTestRequest (l : Link) (b : List Byte) : PanelSound (lampTestRequest l b s).state := by
  refine KeptByOperations.needSession h fun _ => ?_
  split
  · next hadmitted => exact KeptByOperations.needPayload h fun _ _ => h.startLamp hadmitted.2 _ _
  · exact h

/-! ### Operations on the supply -/

/-- The supply and with it the lamp test are written. -/
theorem of_supply {x : Lamp} {m : SupplyMonitor} (hm : m.Sound) (hx : x.Sound m.level)
    (e : t.controls = ((s.setSupply m).setLamp x).controls) : PanelSound t := by
  obtain ⟨-, -, keys⟩ := panelSound_iff.mp h
  exact (panelSound_iff.mpr ⟨hx, hm, keys⟩ : PanelSound ((s.setSupply m).setLamp x)).of_controls e

/-- A change of level to CRITICAL ends the test, any other leaves it as it was (R126). -/
theorem levelChanged (before : State) {m : SupplyMonitor} (hm : m.Sound) (e : t.controls = (s.setSupply m).controls) :
    PanelSound (before.levelChanged t) := by
  obtain ⟨lamp, -, -⟩ := panelSound_iff.mp h
  obtain ⟨held', lamp', supply', keys'⟩ := State.controls_eq_iff.mp e
  rw [State.setSupply_supply] at supply'
  unfold State.levelChanged
  dsimp only
  split
  · have hended : (before.surfaceAll t).redecideHorn.endLamp.panel.lamp = .idle :=
      State.endLamp_lamp (level := s.supply.level) (by simpa [lamp'] using lamp)
    exact h.of_supply hm (Lamp.sound_idle _) (by simp [State.controls, hended, held', supply', keys'])
  · next hlevel =>
    rw [supply'] at hlevel
    exact h.of_supply hm (lamp.at_level hlevel) (by simp [State.controls, held', lamp', supply', keys'])

theorem takeSample (mv : Nat) : PanelSound (s.takeSample mv) := by
  have hsupply := s.supply.sound_sample mv
  unfold State.takeSample
  dsimp only
  split
  · next hstays =>
    replace hstays : (s.supply.sample mv).level = s.supply.level := hstays
    exact h.of_supply hsupply (hstays ▸ (panelSound_iff.mp h).1) rfl
  · exact h.levelChanged s hsupply rfl

/-! ### Operations on the keys -/

/-- The Key Port alone is written. -/
theorem of_keys {p : KeyPort} (hp : p.Sound s.held) (e : t.controls = (s.setKeys p).controls) : PanelSound t := by
  obtain ⟨lamp, supply, -⟩ := panelSound_iff.mp h
  exact (panelSound_iff.mpr ⟨lamp, supply, hp⟩ : PanelSound (s.setKeys p)).of_controls e

/-- The chord timer alone is written. -/
theorem of_chord {c : Chord} (hc : KeyPort.ChordHeld { s.keys with chord := c })
    (e : t.controls = (s.setKeys { s.keys with chord := c }).controls) : PanelSound t := by
  obtain ⟨-, -, -, timed, opened⟩ := panelSound_iff.mp h
  exact h.of_keys ⟨hc, timed, opened⟩ e

/-- A press of one key of the chord while the other is CLOSED starts the count (R111). -/
theorem chordPress {other : KeyId} (hboth : s.keys.debounced.get other = .closed →
    s.keys.debounced.ack = .closed ∧ s.keys.debounced.reset = .closed) : PanelSound (s.chordPress other) := by
  unfold State.chordPress
  split
  · next hstarts =>
    obtain ⟨-, hother, henable⟩ := hstarts
    obtain ⟨hack, hreset⟩ := hboth hother
    exact h.of_chord (c := .timing (s.time.clock + chordMicros)) (fun _ => ⟨hack, hreset, henable⟩) rfl
  · exact h

theorem fireChord : PanelSound s.fireChord := by
  unfold State.fireChord
  split
  · next fires hchord =>
    have htiming : s.keys.chord ≠ .idle := by rw [hchord]; nofun
    exact h.of_chord (c := .fired) (fun _ => h.chord htiming) (by simp [State.controls])
  · exact h
  · exact h

theorem configureRequest (l : Link) (b : List Byte) : PanelSound (configureRequest l b s).state := by
  refine h.primaryRequest l fun p => ?_
  obtain ⟨lamp, supply, chord, timed, opened⟩ := panelSound_iff.mp h
  have hstored : PanelSound (s.storeConfiguration p) :=
    panelSound_iff.mpr ⟨lamp, supply, chord.configured p, timed, opened⟩
  refine hstored.of_controls ?_
  simp only [Reply.ok_state, State.applyConfiguration]
  split <;> simp [State.controls]

theorem restartRequest (l : Link) (b : List Byte) : PanelSound (restartRequest l b s).state := by
  refine h.primaryRequest l fun _ => KeptByOperations.needIdleCommit h ?_
  have hended : PanelSound s.restarted :=
    (h.of_controls (by simp [State.controls, State.cleared, State.emptyChanged]) :
      PanelSound (s.cleared.notifyBoth .putRestart)).endLamp
  refine hended.of_chord (c := s.restarted.keys.chord.restart s.time.clock) (fun hchord => hended.chord ?_) ?_
  · exact fun hidle => hchord (by simp [hidle, Chord.restart])
  · simp [State.controls, State.restartTable, State.restarted, State.cleared]

/-! ### Recognition (R100) -/

/-- Where a debounce is under way, the recognised key stands as its input, and the action takes over. -/
theorem recognise (hrun : s.held = false) (key : KeyId) (c : Contact) {act : State → State}
    (hact : (s.keys.recognised key c).Timed → ∀ e, PanelSound (act ((s.reach e).setKeys (s.keys.recognised key c)))) :
    PanelSound (s.recognise key c act) := by
  unfold State.recognise
  split
  · exact h
  · next began hbegan =>
    split
    · exact h
    · next hdiffers => exact hact (KeyPort.Timed.recognised (h.timing hrun) (by rw [hbegan]; rfl) hdiffers) _

/-- The Key Port of a part out of reset. -/
theorem of_keys_running (hrun : s.held = false) {p : KeyPort} (hchord : p.ChordHeld) (htimed : p.Timed)
    (e : t.controls = (s.setKeys p).controls) : PanelSound t :=
  h.of_keys ⟨hchord, fun _ => htimed, fun hheld => absurd (hrun.symm.trans hheld) nofun⟩ e

theorem recognise_press (hrun : s.held = false) (key : KeyId) {act : State → State}
    (hact : ∀ x, PanelSound x → x.keys.debounced.get key = .closed → PanelSound (act x)) :
    PanelSound (s.recognise key .closed act) :=
  h.recognise hrun key .closed fun htimed _ =>
    hact _ (h.of_keys_running hrun (KeyPort.ChordHeld.pressed h.chord key) htimed rfl)
      (by simp [KeyPort.recognised, PerKey.get_set])

theorem recognise_release (hrun : s.held = false) {key : KeyId} (hkey : key = .silence ∨ key = .test)
    {act : State → State} (hact : ∀ x, PanelSound x → PanelSound (act x)) :
    PanelSound (s.recognise key .opened act) :=
  h.recognise hrun key .opened fun htimed _ =>
    hact _ (h.of_keys_running hrun (KeyPort.ChordHeld.released h.chord hkey) htimed rfl)

/-- The release of a key of the chord returns the timer to IDLE, whatever the other key (R111). -/
theorem recognise_chordRelease (hrun : s.held = false) (key : KeyId) :
    PanelSound (s.recognise key .opened State.chordRelease) :=
  h.recognise hrun key .opened fun htimed _ =>
    h.of_keys_running hrun (p := { s.keys.recognised key .opened with chord := .idle }) (fun hchord => absurd rfl hchord)
      htimed rfl

/-! ### Taking a command -/

theorem takeInside {f : State → State} (e : takeInside s f = .next t)
    (hf : ∀ x, x.held = false → PanelSound x → PanelSound (f x)) : PanelSound t := by
  unfold Machine.takeInside at e
  split at e <;> cases e
  · exact h
  · next hrun => exact hf _ (by simpa using hrun) (h.of_controls (by simp [State.controls]))

/-- An event inside the part that leaves the controls alone. -/
theorem takeInside_quiet {f : State → State} (e : Machine.takeInside s f = .next t)
    (hf : ∀ x, (f x).controls = x.controls) : PanelSound t :=
  h.takeInside e fun x _ hx => hx.of_controls (hf x)

theorem takeRequest {l : Link} {row : Request → Bool} {body : List Byte → State → Reply}
    (e : takeRequest l s row body = .next t) (hbody : ∀ b x, PanelSound x → PanelSound (body b x).state) :
    PanelSound t := by
  refine h.takeInside e fun x _ hx => ?_
  have hfinish : ∀ (y : Reply) (r : Request), (y.finish l r).controls = y.state.controls := fun y r => by
    unfold Reply.finish
    split <;> simp [State.controls]
  unfold State.execute
  repeat' split
  · exact hx
  · exact (hbody _ x hx).of_controls (hfinish ..)
  · exact hx

omit h in
/-- Device reset leaves every key open and no timer running (R101). -/
theorem holdInReset (s : State) : PanelSound s.holdInReset :=
  have hreset := panelSound_reset
  ⟨hreset.idle, hreset.running, hreset.critical, hreset.recovery, hreset.chord, nofun,
    fun _ k => by cases k <;> rfl⟩

/-- At the release the closed keys are the ones that differ from their debounced state (R101). -/
theorem release (hheld : s.held = true) : PanelSound s.release := by
  obtain ⟨lamp, supply, keys⟩ := panelSound_iff.mp h
  refine panelSound_iff.mpr ⟨lamp, supply, keys.chord, fun _ k => ?_, nofun⟩
  have hopened : s.release.keys.debounced.get k = .opened := keys.opened hheld k
  have hpins : s.release.keys.pins.get k = s.keys.pins.get k := rfl
  rw [s.release_timing, hopened, hpins]
  cases s.keys.pins.get k <;> simp

/-- An input changes, with its debounce in a running part, and alone in device reset (R100, R101). -/
theorem keyInputChange {dt : Nat} {k : KeyId} {c : Contact} (e : execKeyInputChange dt k c s = .next t) :
    PanelSound t := by
  unfold execKeyInputChange at e
  split at e
  · next hheld =>
    cases e
    obtain ⟨-, -, keys⟩ := panelSound_iff.mp h
    exact h.of_keys (p := { s.keys with pins := s.keys.pins.set k c })
      ⟨keys.chord, fun hrun => absurd (hheld.symm.trans hrun) nofun, keys.opened⟩ rfl
  · refine h.takeInside e fun x hrun hx => ?_
    exact hx.of_keys_running hrun (KeyPort.ChordHeld.changed hx.chord k c _)
      (KeyPort.Timed.changed (hx.timing hrun) k c _) rfl

/-! ### The commands -/

theorem exec {c : Instr} (e : exec c s = .next t) : PanelSound t := by
  cases c with
  | peek dt l kind bytes =>
    simp only [Machine.exec, execPeek] at e
    refine h.takeInside_quiet e fun x => ?_
    split
    · rfl
    · exact State.transact_controls ..
  | send dt l bytes =>
    simp only [Machine.exec, execSend] at e
    exact h.takeInside_quiet e fun _ => State.transact_controls ..
  | fetch dt l bytes =>
    simp only [Machine.exec, execFetch] at e
    exact h.takeInside_quiet e fun _ => State.transact_controls ..
  | linkReset dt l bytes =>
    simp only [Machine.exec, execLinkReset] at e
    exact h.takeInside_quiet e fun _ => State.transact_controls ..
  | unknownRequest l => exact h.takeRequest e fun _ _ hx => hx
  | attach l => exact h.takeRequest e fun b _ hx => hx.attachRequest l b
  | detachWithdrawAll l => exact h.takeRequest e fun b _ hx => hx.detachRequest l b
  | detachLeave l => exact h.takeRequest e fun b _ hx => hx.detachRequest l b
  | ping l => exact h.takeRequest e fun b _ hx => KeptByOperations.pingRequest l b hx
  | setAttention l => exact h.takeRequest e fun b _ hx => hx.setAttentionRequest l b
  | collect l => exact h.takeRequest e fun b _ hx => hx.collectRequest l b
  | permitGrant l => exact h.takeRequest e fun b _ hx => hx.permitRequest l b
  | permitWithdraw l => exact h.takeRequest e fun b _ hx => hx.permitRequest l b
  | takeover l => exact h.takeRequest e fun b _ hx => hx.takeoverRequest l b
  | takeoverComplete => exact h.takeInside_quiet e fun _ => rfl
  | yieldRole l => exact h.takeRequest e fun b _ hx => hx.yieldRequest l b
  | claimOrphan l => exact h.takeRequest e fun b _ hx => hx.claimRequest l b
  | post l => exact h.takeRequest e fun b _ hx => hx.postRequest l b
  | amend l => exact h.takeRequest e fun b _ hx => hx.amendRequest l b
  | clear l => exact h.takeRequest e fun b _ hx => hx.clearRequest l b
  | reassert l => exact h.takeRequest e fun b _ hx => hx.reassertRequest l b
  | withdraw l => exact h.takeRequest e fun b _ hx => hx.withdrawRequest l b
  | find l => exact h.takeRequest e fun b _ hx => KeptByOperations.findRequest l b hx
  | query l => exact h.takeRequest e fun b _ hx => KeptByOperations.queryRequest l b hx
  | listGroup l => exact h.takeRequest e fun b _ hx => KeptByOperations.listGroupRequest l b hx
  | panelStatus l => exact h.takeRequest e fun b _ hx => KeptByOperations.panelStatusRequest l b hx
  | readMap l => exact h.takeRequest e fun b _ hx => KeptByOperations.readMapRequest l b hx
  | acknowledgeHandles l => exact h.takeRequest e fun b _ hx => hx.targetsRequest l b ..
  | acknowledgeAllVisible l => exact h.takeRequest e fun b _ hx => hx.targetsRequest l b ..
  | remoteResetHandles l => exact h.takeRequest e fun b _ hx => hx.targetsRequest l b ..
  | remoteResetAllVisible l => exact h.takeRequest e fun b _ hx => hx.targetsRequest l b ..
  | silence l => exact h.takeRequest e fun b _ hx => hx.silenceRequest l b
  | retire l => exact h.takeRequest e fun b _ hx => hx.retireRequest l b
  | stageMap l => exact h.takeRequest e fun b _ hx => hx.stageMapRequest l b
  | commitMap l => exact h.takeRequest e fun b _ hx => hx.commitMapRequest l b
  | abortMap l => exact h.takeRequest e fun b _ hx => hx.abortMapRequest l b
  | lampTest l => exact h.takeRequest e fun b _ hx => hx.lampTestRequest l b
  | configure l => exact h.takeRequest e fun b _ hx => hx.configureRequest l b
  | restart l => exact h.takeRequest e fun b _ hx => hx.restartRequest l b
  | ackKeyPress =>
    simp only [Machine.exec, execAckKeyPress] at e
    exact h.takeInside e fun _ hrun hx => hx.recognise_press hrun .ack fun _ hy hclosed =>
      (hy.chordPress (other := .reset) fun hother => ⟨hclosed, hother⟩).of_controls (State.ackAction_controls _)
  | silenceKeyPress =>
    simp only [Machine.exec, execSilenceKeyPress] at e
    exact h.takeInside e fun _ hrun hx => hx.recognise_press hrun .silence fun _ hy _ =>
      hy.of_controls (State.silenceAction_controls _)
  | resetKeyPress =>
    simp only [Machine.exec, execResetKeyPress] at e
    exact h.takeInside e fun _ hrun hx => hx.recognise_press hrun .reset fun _ hy hclosed =>
      (hy.chordPress (other := .ack) fun hother => ⟨hother, hclosed⟩).of_controls (State.resetAction_controls _)
  | testKeyPress =>
    simp only [Machine.exec, execTestKeyPress] at e
    exact h.takeInside e fun _ hrun hx => hx.recognise_press hrun .test fun _ hy _ => hy.testAction
  | testKeyRelease =>
    simp only [Machine.exec, execTestKeyRelease] at e
    exact h.takeInside e fun _ hrun hx => hx.recognise_release hrun (.inr rfl) fun _ hy => hy.testReleaseAction
  | ackKeyRelease =>
    simp only [Machine.exec, execAckKeyRelease] at e
    exact h.takeInside e fun _ hrun hx => hx.recognise_chordRelease hrun .ack
  | resetKeyRelease =>
    simp only [Machine.exec, execResetKeyRelease] at e
    exact h.takeInside e fun _ hrun hx => hx.recognise_chordRelease hrun .reset
  | silenceKeyRelease =>
    simp only [Machine.exec, execSilenceKeyRelease] at e
    exact h.takeInside e fun _ hrun hx => hx.recognise_release hrun (.inl rfl) fun _ hy => hy
  | chordFire =>
    simp only [Machine.exec, execChordFire] at e
    exact h.takeInside e fun _ _ hx => hx.fireChord
  | tick =>
    simp only [Machine.exec, execTick] at e
    exact h.takeInside_quiet e fun x =>
      x.takeDueExpiries.countTick_controls.trans x.takeDueExpiries_controls
  | expire i =>
    simp only [Machine.exec, execExpire] at e
    exact h.takeInside_quiet e fun _ => by simp [State.controls]
  | keepaliveExpiry l =>
    simp only [Machine.exec, execKeepaliveExpiry] at e
    exact h.takeInside_quiet e fun x => x.expireKeepalive_controls l
  | frameStart =>
    simp only [Machine.exec, execFrameStart] at e
    exact h.takeInside_quiet e State.startFrame_controls
  | commitCompletion =>
    simp only [Machine.exec, execCommitCompletion] at e
    refine h.takeInside_quiet e fun x => ?_
    split
    · exact x.startFrame_controls
    · rfl
  | lampTestEnd =>
    simp only [Machine.exec, execLampTestEnd] at e
    exact h.takeInside e fun _ _ hx => hx.passTimedEnd
  | supplySample mv =>
    simp only [Machine.exec, execSupplySample] at e
    exact h.takeInside e fun _ _ hx => hx.takeSample mv
  | hornPhaseEnd =>
    simp only [Machine.exec, execHornPhaseEnd] at e
    exact h.takeInside_quiet e State.endHornPhase_controls
  | deviceReset =>
    cases e
    exact holdInReset s
  | resetRelease =>
    change execResetRelease s = .next t at e
    unfold execResetRelease at e
    split at e <;> cases e
    · next hheld => exact h.release hheld
    · exact h
  | keyInputChange dt k c => exact h.keyInputChange e

end

end PanelSound

/-- Settles O58: lamp test, supply and keys are each kept by the operations on their block, and every other command leaves
the three alone. -/
theorem stepKeepsPanel : Obligations.StepKeepsPanel := by
  intro s t h e
  unfold step at e
  split at e
  · cases e
    exact h
  · next c rest _ => exact (h.of_controls rfl : PanelSound (s.setPending rest)).exec e

end Sys2Proof.Machine

/-! ## The frames of each pattern (R62, R86) -/

namespace Sys2Proof.Machine

/-- The FAST pattern is on in every other eighth of a cadence cycle. -/
theorem Pattern.fast_onIn {f : Frame} : Pattern.fast.onIn f = true ↔
    f.val ≤ 7 ∨ (16 ≤ f.val ∧ f.val ≤ 23) ∨ (32 ≤ f.val ∧ f.val ≤ 39) ∨ (48 ≤ f.val ∧ f.val ≤ 55) := by
  have hlt : f.val < 64 := f.isLt
  simp only [Pattern.onIn, beq_iff_eq]
  omega

theorem Pattern.slow_onIn {f : Frame} : Pattern.slow.onIn f = true ↔ f.val ≤ 31 := by
  simp only [Pattern.onIn, decide_eq_true_eq]
  omega

theorem Pattern.wink_onIn {f : Frame} : Pattern.wink.onIn f = true ↔ f.val ≤ 7 := by
  simp only [Pattern.onIn, decide_eq_true_eq]
  omega

/-- A group without a visible record is lit with its idle glyph alone, STEADY (R61, R62). -/
theorem State.pattern_of_no_visible {s : State} {g : Group} {positions : Byte} {pattern : Pattern}
    (hlit : s.display g = .lit positions pattern) (hnone : s.visibleSlot g = none) : pattern = .steady := by
  by_cases hidle : s.showsIdle g
  · rw [State.display_idle hidle] at hlit
    cases hlit
    rfl
  · rw [State.display_dark hnone hidle] at hlit
    cases hlit

/-- Settles O51: the frames of each pattern, and the pattern of a display by its two lit cases. -/
theorem patternsFollowFrames : Obligations.PatternsFollowFrames := by
  refine ⟨fun f => ⟨rfl, Pattern.fast_onIn, Pattern.slow_onIn, Pattern.wink_onIn⟩, fun s g positions pattern hlit =>
    ⟨State.pattern_of_no_visible hlit, fun i r hvisible hr => ?_⟩⟩
  rw [State.display_visible hvisible hr] at hlit
  cases hlit
  cases r.state <;> rfl

end Sys2Proof.Machine

/-! ## LAMP_TEST and its timed end (R93, R95, R98) -/

namespace Sys2Proof.Machine

section
variable {l : Link} {s : State} {r : Request} {d : Nat} (h : s.asks l r) (hcode : r.code = codeLampTest)
  (hp : parseLampTest r.payload = some d) (hc : s.commands l) (hlevel : s.supply.level ≠ .critical)
include h hcode hp hc hlevel

/-- LAMP_TEST of the primary below CRITICAL starts or joins a test (R94, R95). -/
theorem exec_lampTest :
    exec (.lampTest l) s =
      .next ((Reply.ok (s.startLamp (s.time.clock + d * secondMicros) false) [lampOutcome s]).finish l r) := by
  refine (takeRequest_session h (hasCode_of_eq hcode) hc.1 (body := lampTestRequest l) rfl).trans ?_
  rw [if_pos ⟨State.isPrimary_iff.mpr hc.2, hlevel⟩, hp, needPayload_some]

theorem exec_lampTest_starts (hidle : s.panel.lamp.running = false) :
    exec (.lampTest l) s =
      .next { s with
        ports := s.portsAnswering l r .ok [1#8]
        sessions := s.lampTold .started
        panel := { s.panel with
          lamp := { running := true, timedEnd := some (s.time.clock + d * secondMicros), keyHold := false } } } := by
  have hoff : ¬s.panel.lamp.running = true := by simp [hidle]
  rw [exec_lampTest h hcode hp hc hlevel, State.startLamp_spec, lampOutcome, if_neg hoff, if_neg hoff]
  rfl

theorem exec_lampTest_lengthens {f : Nat} (hrun : s.panel.lamp.running = true) (hf : s.panel.lamp.timedEnd = some f) :
    exec (.lampTest l) s =
      .next { s with
        ports := s.portsAnswering l r .ok [2#8]
        panel := { s.panel with
          lamp := { s.panel.lamp with timedEnd := some (max f (s.time.clock + d * secondMicros)) } } } := by
  rw [exec_lampTest h hcode hp hc hlevel, State.startLamp_spec, lampOutcome, if_pos hrun, if_pos hrun, Lamp.extend, hf,
    Bool.or_false]
  rfl

end

/-- The end of a RUNNING test (R90, R98). -/
theorem State.endLamp_running {s : State} (hrun : s.panel.lamp.running = true) :
    s.endLamp = { s with sessions := s.lampTold .ended, panel := { s.panel with lamp := .idle } } := by
  rw [State.endLamp_spec, if_pos hrun]

/-- The timed end of a RUNNING test passes at its moment: a held test runs on, any other ends (R93). -/
theorem exec_lampTestEnd {s : State} {f : Nat} (h : s.ready) (hrun : s.panel.lamp.running = true)
    (hf : s.panel.lamp.timedEnd = some f) :
    exec .lampTestEnd s = .next (if s.panel.lamp.keyHold then s.reach f else (s.reach f).endLamp) := by
  refine (takeInside_ready h State.passTimedEnd).trans (congrArg _ ?_)
  simp only [State.passTimedEnd, hf, hrun, if_true]

/-- Settles O33: the start and the joining by `State.startLamp_spec`, the end by `State.endLamp_running`. -/
theorem lampTestRuns : Obligations.LampTestRuns := by
  refine ⟨fun l s r d h hcode hpayload hpos hle hc hlevel => ?_, fun s f h hrun hf => ⟨fun hheld => ?_, fun hfree => ?_⟩⟩
  · have hp : parseLampTest r.payload = some d := parseLampTest_eq_some.mpr ⟨hpos, hle, hpayload⟩
    exact ⟨exec_lampTest_starts h hcode hp hc hlevel, fun f => exec_lampTest_lengthens h hcode hp hc hlevel⟩
  · rw [exec_lampTestEnd h hrun hf, if_pos hheld]
    rfl
  · rw [exec_lampTestEnd h hrun hf, if_neg (by simp [hfree]), State.endLamp_running (s := s.reach f) hrun]
    rfl

end Sys2Proof.Machine

/-! ## The TEST key (R91, R92, R103, R108) -/

namespace Sys2Proof.Machine

section
variable {s : State} {began : Nat}

/-- A press or release that is being timed is recognised, and its action takes over (R100). -/
theorem takeInside_recognised (h : s.ready) {k : KeyId} {c : Contact} (act : State → State)
    (hbegan : s.keys.timing.get k = some began) (hdiffers : s.keys.debounced.get k ≠ c) :
    takeInside s (fun x => x.recognise k c act) = .next (act (s.recognisedAt k c began)) := by
  rw [takeInside_ready h]
  simp only [State.recognise, hbegan, if_neg hdiffers]
  rfl

/-- A key that acts locally has the effective mode LOCAL (R102). -/
theorem State.effectiveMode_local {k : KeyId} (h : s.actsLocally k) : s.effectiveMode k = .isLocal := by
  unfold State.effectiveMode
  split
  · next hprimary => exact h.resolve_left (by simp [hprimary])
  · rfl

theorem State.testAction_local (h : s.actsLocally .test) :
    s.testAction = if s.supply.level = .critical then s else s.startLamp (s.time.clock + secondMicros) true := by
  simp only [State.testAction, State.effectiveMode_local h]

theorem exec_testKeyPress (h : s.ready) (hbegan : s.keys.timing.test = some began)
    (hopened : s.keys.debounced.test = .opened) :
    exec .testKeyPress s = .next (s.recognisedAt .test .closed began).testAction :=
  takeInside_recognised h (k := .test) State.testAction hbegan fun e => absurd (hopened.symm.trans e) nofun

theorem exec_testKeyRelease (h : s.ready) (hbegan : s.keys.timing.test = some began)
    (hclosed : s.keys.debounced.test = .closed) :
    exec .testKeyRelease s = .next (s.recognisedAt .test .opened began).testReleaseAction :=
  takeInside_recognised h (k := .test) State.testReleaseAction hbegan fun e => absurd (hclosed.symm.trans e) nofun

/-- A release that finds no held test acts on nothing (R92). -/
theorem State.testReleaseAction_unheld (h : s.panel.lamp.running = false ∨ s.panel.lamp.keyHold = false) :
    s.testReleaseAction = s := by
  refine if_neg fun hheld => ?_
  rcases h with hidle | hfree
  · exact absurd (hheld.1.symm.trans hidle) nofun
  · exact absurd (hheld.2.symm.trans hfree) nofun

/-- A release of a held test clears the hold, and ends the test whose timed end has passed (R92). -/
theorem State.testReleaseAction_held {f : Nat} (hrun : s.panel.lamp.running = true)
    (hheld : s.panel.lamp.keyHold = true) (hf : s.panel.lamp.timedEnd = some f) :
    s.testReleaseAction =
      if f ≤ s.time.clock then
        { s with sessions := s.lampTold .ended, panel := { s.panel with lamp := .idle } }
      else s.setLamp { s.panel.lamp with keyHold := false } := by
  refine (if_pos ⟨hrun, hheld⟩).trans ?_
  by_cases hpassed : f ≤ s.time.clock
  · rw [if_pos hpassed, if_pos (by simpa [State.lampEndPassed, hf] using hpassed)]
    exact State.endLamp_running (s := s.setLamp { s.panel.lamp with keyHold := false }) hrun
  · rw [if_neg hpassed, if_neg (by simpa [State.lampEndPassed, hf] using hpassed)]

end

/-- Settles O38: the press and the release once recognised, by what each does to the lamp test. -/
theorem testKeyDrivesLampTest : Obligations.TestKeyDrivesLampTest := by
  refine fun s began h hbegan => ⟨fun hopened hlocal => ?_, fun hclosed => ?_⟩
  · intro now e
    have hpress : exec .testKeyPress s =
        .next (if s.supply.level = .critical then now else now.startLamp e true) :=
      (exec_testKeyPress h hbegan hopened).trans (congrArg _ (State.testAction_local (s := now) hlocal))
    refine ⟨fun hcritical => ?_, fun hlevel hidle => ?_, fun f hlevel hrun hf => ?_⟩
    · rw [hpress, if_pos hcritical]
    · have hoff : ¬now.panel.lamp.running = true := by simp [now, State.recognisedAt, hidle]
      rw [hpress, if_neg hlevel, State.startLamp_spec, if_neg hoff]
      rfl
    · have hon : now.panel.lamp.running = true := hrun
      have hlamp : { now.panel.lamp.extend e with keyHold := now.panel.lamp.keyHold || true } =
          ({ running := true, timedEnd := some (max f e), keyHold := true } : Lamp) := by
        simp [Lamp.extend, now, State.recognisedAt, hrun, hf]
      rw [hpress, if_neg hlevel, State.startLamp_spec, if_pos hon, hlamp]
      rfl
  · intro now
    have hrelease := exec_testKeyRelease h hbegan hclosed
    refine ⟨fun hunheld => ?_, fun f hrun hheld hf => ⟨fun hbefore => ?_, fun hpassed => ?_⟩⟩
    · rw [hrelease, State.testReleaseAction_unheld (s := now) hunheld]
    · rw [hrelease, State.testReleaseAction_held (s := now) hrun hheld hf, if_neg (Nat.not_le.mpr hbefore)]
      rfl
    · rw [hrelease, State.testReleaseAction_held (s := now) hrun hheld hf, if_pos hpassed]
      rfl

end Sys2Proof.Machine

/-! ## The horn follows its demand (R115–R119)

Horn demand is read from the table, the active map, the supply and the horn enable. A command that writes none of them
leaves the decision alone; one that does re-decides the horn behind its last effect on the table (R116). -/

namespace Sys2Proof.Machine

/-! ### The demanding set (R115) -/

theorem Record.demandsHorn_iff {r : Record} : r.demandsHorn = true ↔
    (r.cls = .alarm ∨ r.cls = .warning) ∧ r.horn = .sound ∧ (r.state = .new ∨ r.state = .clearedNew) ∧
      r.silenced = false := by
  simp only [Record.demandsHorn, Bool.and_eq_true, Bool.or_eq_true, beq_iff_eq, Annunciation.unacknowledged_iff,
    Bool.not_eq_true', and_assoc]

/-- The demanding set holds the visible records that demand the horn. -/
theorem State.mem_demanding {s : State} {r : Record} :
    r ∈ s.demanding ↔ r.demandsHorn = true ∧ ∃ i, s.isVisible i = true ∧ s.record i = some r := by
  simp only [State.demanding, List.mem_filterMap, Option.filter_eq_some_iff, Option.bind_eq_some_iff, State.isVisible_iff]
  constructor
  · rintro ⟨g, -, ⟨i, hvisible, hr⟩, hdemands⟩
    obtain ⟨q, hq, rfl⟩ := State.visibleSlot_record hvisible
    exact ⟨hdemands, i, ⟨q, hq, hvisible⟩, hr⟩
  · rintro ⟨hdemands, i, ⟨q, hq, hvisible⟩, hr⟩
    exact ⟨q.group, List.mem_finRange _, ⟨i, hvisible, hr⟩, hdemands⟩

/-- A visible record of class `c` demands the horn. -/
def State.hornDemand (s : State) (c : Class) : Prop :=
  ∃ i r, s.isVisible i = true ∧ s.record i = some r ∧ r.cls = c ∧ r.demandsHorn = true

theorem State.hornDemand_iff_mem {s : State} {c : Class} : s.hornDemand c ↔ ∃ r ∈ s.demanding, r.cls = c := by
  simp only [State.mem_demanding]
  constructor
  · rintro ⟨i, r, hvisible, hr, hcls, hdemands⟩
    exact ⟨r, ⟨hdemands, i, hvisible, hr⟩, hcls⟩
  · rintro ⟨r, ⟨hdemands, i, hvisible, hr⟩, hcls⟩
    exact ⟨i, r, hvisible, hr, hcls, hdemands⟩

/-- Only an ALARM or a WARNING demands the horn. -/
theorem State.demanding_nonempty {s : State} :
    s.demanding ≠ [] ↔ s.hornDemand .alarm ∨ s.hornDemand .warning := by
  simp only [State.hornDemand_iff_mem, ← List.isEmpty_eq_false_iff, List.isEmpty_eq_false_iff_exists_mem]
  constructor
  · rintro ⟨r, hr⟩
    exact (Record.demandsHorn_iff.mp (State.mem_demanding.mp hr).1).1.imp (⟨r, hr, ·⟩) (⟨r, hr, ·⟩)
  · rintro (⟨r, hr, -⟩ | ⟨r, hr, -⟩) <;> exact ⟨r, hr⟩

theorem State.decideHorn_alarmTone {s : State} :
    s.decideHorn = .alarmTone ↔ s.horn.enable = true ∧ s.hornDemand .alarm := by
  rw [State.hornDemand_iff_mem]
  unfold State.decideHorn
  repeat' split
  all_goals simp_all

theorem State.decideHorn_warningTone {s : State} :
    s.decideHorn = .warningTone ↔ s.horn.enable = true ∧ ¬s.hornDemand .alarm ∧ s.hornDemand .warning := by
  have hdemanding : ¬s.hornDemand .alarm → (s.demanding ≠ [] ↔ s.hornDemand .warning) := fun hno =>
    State.demanding_nonempty.trans (or_iff_right hno)
  have halarm : s.demanding.any (·.cls == .alarm) = true ↔ s.hornDemand .alarm := by
    simp [State.hornDemand_iff_mem]
  unfold State.decideHorn
  repeat' split
  all_goals simp_all

/-- Settles O52: the demanding set by its members, and the decision by the classes in it. -/
theorem hornStateFollowsDemand : Obligations.HornStateFollowsDemand := by
  intro s demands
  have hdemand : ∀ c, c = .alarm ∨ c = .warning → (s.hornDemand c ↔ demands c) := by
    intro c hc
    simp only [demands, State.hornDemand, Record.demandsHorn_iff]
    refine exists_congr fun i => exists_congr fun r => and_congr_right fun _ => and_congr_right fun _ =>
      and_congr_right fun hcls => ?_
    rw [hcls]
    exact and_iff_right hc
  rw [← hdemand .alarm (.inl rfl), ← hdemand .warning (.inr rfl)]
  exact ⟨State.decideHorn_alarmTone, State.decideHorn_warningTone⟩

/-! ### What the decision reads -/

/-- What the horn decision reads of a record beyond what the Resolver reads. -/
def Record.voice (r : Record) : Class × Bool := (r.cls, r.demandsHorn)

theorem SameView.hornDemand {s t : State} (hview : SameView s t)
    (hvoice : ∀ i, (t.record i).map Record.voice = (s.record i).map Record.voice) (c : Class) :
    t.hornDemand c ↔ s.hornDemand c := by
  have hrecord : ∀ i, (∃ r, t.record i = some r ∧ r.cls = c ∧ r.demandsHorn = true) ↔
      ∃ r, s.record i = some r ∧ r.cls = c ∧ r.demandsHorn = true := fun i => by
    have hmap : ∀ o : Option Record, (∃ r, o = some r ∧ r.cls = c ∧ r.demandsHorn = true) ↔
        o.map Record.voice = some (c, true) := by
      simp [Record.voice]
    rw [hmap, hmap, hvoice i]
  unfold State.hornDemand
  refine exists_congr fun i => ?_
  rw [exists_and_left, exists_and_left, hview.isVisible i, hrecord i]

/-- The two demands and the enable decide the horn state. -/
theorem State.decideHorn_congr {s t : State} (henable : t.horn.enable = s.horn.enable)
    (hdemand : ∀ c, t.hornDemand c ↔ s.hornDemand c) : t.decideHorn = s.decideHorn := by
  have halarm : t.decideHorn = .alarmTone ↔ s.decideHorn = .alarmTone := by
    rw [State.decideHorn_alarmTone, State.decideHorn_alarmTone, henable, hdemand]
  have hwarning : t.decideHorn = .warningTone ↔ s.decideHorn = .warningTone := by
    rw [State.decideHorn_warningTone, State.decideHorn_warningTone, henable, hdemand, hdemand]
  cases ht : t.decideHorn <;> cases hs : s.decideHorn <;> simp_all

/-- The blocks that the horn decision reads, and the Horn Driver. -/
def State.hornBlocks (s : State) : Table × Vector MapEntry 24 × SupplyMonitor × HornDriver :=
  (s.table, s.map.active, s.supply, s.horn)

theorem State.hornBlocks_eq_iff {s t : State} : t.hornBlocks = s.hornBlocks ↔
    t.table = s.table ∧ t.map.active = s.map.active ∧ t.supply = s.supply ∧ t.horn = s.horn := by
  simp [State.hornBlocks]

/-! ### What keeps the invariant (R115–R117) -/

/-- In OFF no on-phase runs (R117). -/
def HornDriver.QuietInOff (h : HornDriver) : Prop := h.state = .off → h.sounding = false

/-- Once the horn is re-decided its state is the decided one, and OFF entered is quiet (R116, R117). -/
theorem hornSound_redecided {s : State} (h : s.horn.QuietInOff) : HornSound s.redecideHorn where
  decided := s.redecideHorn_spec.1
  off hoff := by
    unfold State.redecideHorn at hoff ⊢
    split
    · next hkept =>
      rw [if_pos hkept] at hoff
      exact h hoff
    · next hnew =>
      rw [if_neg hnew] at hoff
      cases hstate : s.decideHorn <;> rw [hstate] at hoff
      case off => rfl
      all_goals cases hoff

/-- Dealing with a departing link's records leaves the Horn Driver alone. -/
theorem State.departRecords_horn (s : State) (l : Link) (all : Bool) : (s.departRecords l all).1.horn = s.horn := by
  unfold State.departRecords
  refine List.foldlRecOn (motive := fun acc : State × Tally => acc.1.horn = s.horn) _ _ rfl fun acc hacc i _ => ?_
  rcases departSlot_cases l all acc i with ⟨e, -⟩ | ⟨r, -, -, e | e | ⟨-, -, e⟩⟩ <;> rw [e, ← hacc] <;> simp

namespace HornSound

section
variable {s t : State} (h : HornSound s)
include h

/-- Nothing that the decision reads has changed. -/
theorem of_view (hview : SameView s t) (hvoice : ∀ i, (t.record i).map Record.voice = (s.record i).map Record.voice)
    (hhorn : t.horn = s.horn) : HornSound t where
  decided := by
    rw [hhorn, State.decideHorn_congr (congrArg HornDriver.enable hhorn) (hview.hornDemand hvoice)]
    exact h.decided
  off hoff := by
    rw [hhorn] at hoff ⊢
    exact h.off hoff

/-- The blocks that the decision reads stand. -/
theorem of_blocks (e : t.hornBlocks = s.hornBlocks) : HornSound t := by
  obtain ⟨table, active, supply, horn⟩ := State.hornBlocks_eq_iff.mp e
  exact h.of_view (.of_fields table active supply) (fun i => by
    rw [State.record_congr (congrArg Table.slots table)]) horn

/-- The horn is re-decided behind effects that left the Horn Driver alone. -/
theorem redecided (e : t.horn = s.horn) : HornSound t.redecideHorn :=
  hornSound_redecided (e ▸ h.off)

/-! ### Departures (R154) and link transactions -/

theorem depart (l : Link) (all : Bool) (into : SessionState) (peer : PeerNotice) :
    HornSound (s.depart l all into peer).1 := by
  unfold State.depart
  refine h.redecided ?_
  split <;> simp [State.departRecords_horn]

theorem expireKeepalive (l : Link) : HornSound (s.expireKeepalive l) := by
  unfold State.expireKeepalive
  split
  · exact h.depart ..
  · exact h

theorem resetSession (l : Link) : HornSound (s.resetSession l) := by
  unfold State.resetSession
  split
  · exact h
  · exact h.of_blocks rfl
  · exact h.depart ..
  · exact h.depart ..

theorem completeTakeover : HornSound s.completeTakeover := by
  refine h.of_blocks ?_
  unfold State.completeTakeover
  split
  · rfl
  · simp [State.hornBlocks, State.swapRoles_map]

theorem sendFrame (l : Link) (bytes : List Byte) : HornSound (s.sendFrame l bytes) := by
  have htaken : ∀ r, HornSound (s.takeIntoSlot l r) := fun r => by
    unfold State.takeIntoSlot
    split <;> exact h.of_blocks (by simp [State.hornBlocks, State.setSlotOf])
  unfold State.sendFrame
  repeat' split
  · exact h.of_blocks rfl
  · exact h.of_blocks rfl
  · exact htaken _
  · exact htaken _

theorem transact (l : Link) (kind : Byte) (bytes : List Byte) : HornSound (s.transact l kind bytes) := by
  have hopen : HornSound (s.openTransaction l bytes) := h.of_blocks rfl
  unfold State.transact
  dsimp only
  split
  · exact hopen
  · exact hopen.of_blocks rfl
  · exact hopen.sendFrame l bytes
  · exact hopen.of_blocks rfl
  · exact (hopen.of_blocks (t := (s.openTransaction l bytes).setPort l _) rfl).resetSession l

/-! ### Requests that leave the decision alone -/

theorem attachRequest (l : Link) (b : List Byte) : HornSound (attachRequest l b s).state := by
  refine KeptByOperations.needPayload h fun p _ => ?_
  have hopened : (s.openSession l p).hornBlocks = s.hornBlocks := by
    unfold State.openSession
    dsimp only
    split <;> rfl
  split
  · exact h
  · exact (h.of_blocks hopened).of_blocks (by simp [State.hornBlocks])

theorem setAttentionRequest (l : Link) (b : List Byte) : HornSound (setAttentionRequest l b s).state :=
  KeptByOperations.needSession h fun _ => KeptByOperations.needPayload h fun _ _ => h.of_blocks rfl

/-- The tombstones that a COLLECT frees are no records (R17, R174). -/
theorem collectRequest (l : Link) (b : List Byte) : HornSound (collectRequest l b s).state := by
  refine KeptByOperations.needSession h fun _ => KeptByOperations.needPayload h fun _ _ => ?_
  obtain ⟨hslot, harrival, -, -⟩ := s.collected_spec l
  have hrecord : ∀ i, (s.collected l).record i = s.record i := by
    intro i
    by_cases hfreed : i ∈ (s.session l).changed.take 8 ∧ (s.slot i).isTombstone = true
    · obtain ⟨x, hx⟩ := Slot.isTombstone_iff.mp hfreed.2
      have hnone : ∀ {u : State}, (∀ r, (u.slot i).content ≠ .live r) → u.record i = none := fun hdead =>
        Option.eq_none_iff_forall_ne_some.mpr fun r hr => hdead r (State.record_eq_some.mp hr)
      rw [hnone (u := s) (by simp [hx]), hnone (u := s.collected l) (by simp [hslot i, hfreed, Slot.freed])]
    · exact State.record_of_slot ((hslot i).trans (if_neg hfreed))
  have hframe : (s.collected l).map = s.map ∧ (s.collected l).supply = s.supply ∧ (s.collected l).horn = s.horn := by
    simp [State.collected, State.freeReportedAll_frame]
  obtain ⟨map, supply, horn⟩ := hframe
  refine h.of_view ⟨harrival, fun i => congrArg _ (hrecord i), congrArg _ map, congrArg _ supply,
    congrArg _ supply⟩ (fun i => congrArg _ (hrecord i)) horn

theorem permitRequest (l : Link) (b : List Byte) : HornSound (permitRequest l b s).state := by
  have hwithdrawn : s.withdrawPermit.hornBlocks = s.hornBlocks := by
    unfold State.withdrawPermit
    dsimp only
    repeat' split
    all_goals simp [State.hornBlocks]
  refine KeptByOperations.needSession h fun _ => KeptByOperations.needPrimary h
    (KeptByOperations.needPayload h fun _ _ => ?_)
  repeat' split
  · exact h.of_blocks (by simp [State.hornBlocks, State.grantPermit])
  · exact h
  · exact h.of_blocks hwithdrawn

theorem takeoverRequest (l : Link) (b : List Byte) : HornSound (takeoverRequest l b s).state := by
  have htaken : (s.takeRole l).state.hornBlocks = s.hornBlocks := by
    unfold State.takeRole
    repeat' split
    · rfl
    · simp [State.hornBlocks, State.swapRoles_map]
    · rfl
  refine KeptByOperations.needSession h fun _ => ?_
  split
  · exact h
  · refine KeptByOperations.needPayload h fun _ _ => ?_
    split
    · exact h
    · exact h.of_blocks htaken

theorem yieldRequest (l : Link) (b : List Byte) : HornSound (yieldRequest l b s).state := by
  refine KeptByOperations.needSession h fun _ => KeptByOperations.needPrimary h
    (KeptByOperations.needPayload h fun _ _ => KeptByOperations.needIdleCommit h ?_)
  dsimp only
  split <;> exact h.of_blocks (by simp [State.hornBlocks, State.promote_map, State.changePrimary_map])

/-- The owner and the key of a record bear on no decision. -/
theorem claimRequest (l : Link) (b : List Byte) : HornSound (claimRequest l b s).state := by
  refine KeptByOperations.needSession h fun _ => KeptByOperations.needPrimary h
    (KeptByOperations.needPayload h fun p _ => KeptByOperations.needRecord h fun r hr =>
      KeptByOperations.needOwner h fun _ => ?_)
  split
  · exact h
  · have hsame : ∀ {α : Type} (f : Record → α), f { r with owner := some l, key := p.key } = f r → ∀ i,
        ((s.setRecord p.handle.slot { r with owner := some l, key := p.key }).record i).map f =
          (s.record i).map f := by
      intro α f hf i
      rw [State.record_setRecord]
      split
      · next hi => rw [hi, hr, Option.map_some, Option.map_some, hf]
      · rfl
    exact h.of_view ⟨by simp [State.setRecord], hsame _ rfl, by simp, by simp, by simp⟩ (hsame _ rfl) (by simp)

theorem stageMapRequest (l : Link) (b : List Byte) : HornSound (stageMapRequest l b s).state :=
  KeptByOperations.needSession h fun _ => KeptByOperations.needPrimary h
    (KeptByOperations.needPayload h fun _ _ => KeptByOperations.needIdleCommit h (h.of_blocks rfl))

theorem commitMapRequest (l : Link) (b : List Byte) : HornSound (commitMapRequest l b s).state := by
  refine KeptByOperations.needSession h fun _ => KeptByOperations.needPrimary h
    (KeptByOperations.needPayload h fun _ _ => KeptByOperations.needIdleCommit h ?_)
  split
  · exact h
  · exact h.of_blocks rfl

theorem abortMapRequest (l : Link) (b : List Byte) : HornSound (abortMapRequest l b s).state := by
  refine KeptByOperations.needSession h fun _ => KeptByOperations.needPrimary h
    (KeptByOperations.needPayload h fun _ _ => ?_)
  show HornSound s.abortMap
  unfold State.abortMap
  split
  · exact h.of_blocks (by simp [State.hornBlocks])
  · exact h.of_blocks rfl

theorem lampTestRequest (l : Link) (b : List Byte) : HornSound (lampTestRequest l b s).state := by
  refine KeptByOperations.needSession h fun _ => ?_
  split
  · exact KeptByOperations.needPayload h fun _ _ => h.of_blocks (by simp [State.hornBlocks])
  · exact h

/-! ### Requests that re-decide the horn (R116) -/

theorem detachRequest (l : Link) (b : List Byte) : HornSound (detachRequest l b s).state := by
  refine KeptByOperations.needSession h fun _ => KeptByOperations.needPayload h fun all _ => ?_
  simpa only [Reply.ok_state] using h.depart l all .offline .left

theorem postRequest (l : Link) (b : List Byte) : HornSound (postRequest l b s).state := by
  refine KeptByOperations.needSession h fun _ => KeptByOperations.needPayload h fun _ _ => ?_
  repeat' split
  · exact h
  · exact h
  · exact h
  · exact h.redecided (by simp [State.allocate])

theorem amendRequest (l : Link) (b : List Byte) : HornSound (amendRequest l b s).state :=
  KeptByOperations.needSession h fun _ => KeptByOperations.needPayload h fun _ _ =>
    KeptByOperations.needRecord h fun _ _ => KeptByOperations.needOwner h fun _ => h.redecided (by simp)

theorem clearRequest (l : Link) (b : List Byte) : HornSound (clearRequest l b s).state :=
  KeptByOperations.needSession h fun _ => KeptByOperations.needPayload h fun _ _ =>
    KeptByOperations.needRecord h fun _ _ => KeptByOperations.needOwner h fun _ => h.redecided (by simp)

theorem reassertRequest (l : Link) (b : List Byte) : HornSound (reassertRequest l b s).state := by
  refine KeptByOperations.needSession h fun _ => KeptByOperations.needPayload h fun _ _ =>
    KeptByOperations.needRecord h fun _ _ => KeptByOperations.needOwner h fun _ => ?_
  split
  · exact h
  · exact h.redecided (by simp)

theorem withdrawRequest (l : Link) (b : List Byte) : HornSound (withdrawRequest l b s).state :=
  KeptByOperations.needSession h fun _ => KeptByOperations.needPayload h fun _ _ =>
    KeptByOperations.needRecord h fun _ _ => KeptByOperations.needOwner h fun _ => h.redecided (by simp)

theorem targetsRequest (ev : RecordEvent) (visible : State → List SlotIx) (l : Link) (b : List Byte) :
    HornSound (targetsRequest ev visible l b s).state := by
  have hcounted : ∀ is, HornSound (s.deliverCounted ev l is).state := fun is => h.redecided (by simp)
  refine KeptByOperations.needSession h fun _ => KeptByOperations.needPrimary h
    (KeptByOperations.needPayload h fun targets _ => ?_)
  repeat' split
  · exact hcounted _
  · exact h
  · exact hcounted _

theorem silenceRequest (l : Link) (b : List Byte) : HornSound (silenceRequest l b s).state :=
  KeptByOperations.needSession h fun _ => KeptByOperations.needPrimary h
    (KeptByOperations.needPayload h fun _ _ => h.redecided (by simp))

theorem retireRequest (l : Link) (b : List Byte) : HornSound (retireRequest l b s).state :=
  KeptByOperations.needSession h fun _ => KeptByOperations.needPrimary h
    (KeptByOperations.needPayload h fun _ _ => KeptByOperations.needRecord h fun _ _ => h.redecided (by simp))

/-- CONFIGURE writes the enable and leaves the phase to the decision (R117, R118). -/
theorem configureRequest (l : Link) (b : List Byte) : HornSound (configureRequest l b s).state := by
  refine KeptByOperations.needSession h fun _ => KeptByOperations.needPrimary h
    (KeptByOperations.needPayload h fun p _ => hornSound_redecided ?_)
  split
  · exact h.off
  · rw [(s.storeConfiguration p).surfaceAll_frame s |>.2.2.2.2.2.2.2.1]
    exact h.off

theorem restartRequest (l : Link) (b : List Byte) : HornSound (restartRequest l b s).state :=
  KeptByOperations.needSession h fun _ => KeptByOperations.needPrimary h
    (KeptByOperations.needPayload h fun _ _ => KeptByOperations.needIdleCommit h
      (h.redecided (by simp [State.emptyChanged])))

/-! ### Keys and timers -/

theorem recognise (key : KeyId) (c : Contact) {act : State → State} (hact : ∀ x, HornSound x → HornSound (act x)) :
    HornSound (s.recognise key c act) := by
  unfold State.recognise
  repeat' split
  · exact h
  · exact h
  · exact hact _ (h.of_blocks rfl)

theorem reportKey (key : KeyId) : HornSound (s.reportKey key) :=
  h.of_blocks (by simp [State.hornBlocks, State.reportKey])

theorem chordPress (key : KeyId) : HornSound (s.chordPress key) := by
  unfold State.chordPress
  split
  · exact h.of_blocks rfl
  · exact h

theorem ackAction : HornSound s.ackAction := by
  unfold State.ackAction
  repeat' split
  · exact h.reportKey _
  · exact h.reportKey _
  · exact h.redecided (by simp)

theorem silenceAction : HornSound s.silenceAction := by
  unfold State.silenceAction
  split
  · exact h.reportKey _
  · exact h.redecided (by simp)

theorem resetAction : HornSound s.resetAction := by
  unfold State.resetAction
  repeat' split
  · exact h.reportKey _
  · exact h.reportKey _
  · exact h.redecided (by simp)

theorem testAction : HornSound s.testAction := by
  unfold State.testAction
  repeat' split
  · exact h.reportKey _
  · exact h
  · exact h.of_blocks (by simp [State.hornBlocks])

theorem testReleaseAction : HornSound s.testReleaseAction := by
  refine h.of_blocks ?_
  unfold State.testReleaseAction
  dsimp only
  repeat' split
  all_goals simp [State.hornBlocks]

theorem fireChord : HornSound s.fireChord := by
  unfold State.fireChord
  split
  · exact h.redecided (by simp)
  · exact h
  · exact h

theorem expireSlot (i : SlotIx) : HornSound (s.expireSlot i) := by
  unfold State.expireSlot
  repeat' split
  · exact h
  · exact h.redecided (by simp)
  · exact h

theorem takeDueExpiries : HornSound s.takeDueExpiries :=
  (List.foldlRecOn (motive := HornSound) _ _ h fun _ hx i _ => hx.expireSlot i).expireKeepalive .a
    |>.expireKeepalive .b

/-- A tick counts in lifetimes alone, which bear on no decision (R38). -/
theorem countTick : HornSound s.countTick := by
  have hrecord : ∀ i, s.countTick.record i = (s.record i).map Record.tick := by
    intro i
    have hslot := s.countTick_slot i
    cases hr : s.record i with
    | some r =>
      refine State.record_eq_some.mpr ?_
      rw [hslot, Slot.tick, State.record_eq_some.mp hr]
    | none =>
      refine Option.eq_none_iff_forall_ne_some.mpr fun q hq => ?_
      have hdead : ∀ r, (s.slot i).content ≠ .live r := fun r hx => by
        rw [State.record_eq_some.mpr hx] at hr
        cases hr
      rw [State.record_eq_some, hslot, Slot.tick_dead hdead] at hq
      exact hdead q hq
  have hsame : ∀ {α : Type} (f : Record → α), (∀ r, f r.tick = f r) → ∀ i,
      (s.countTick.record i).map f = (s.record i).map f := by
    intro α f hf i
    rw [hrecord i, Option.map_map]
    exact congrArg (Option.map · _) (funext hf)
  have htick : ∀ r : Record, r.tick.shown = r.shown ∧ r.tick.voice = r.voice := fun r => by
    unfold Record.tick
    split <;> exact ⟨rfl, rfl⟩
  exact h.of_view ⟨rfl, hsame _ fun r => (htick r).1, rfl, rfl, rfl⟩ (hsame _ fun r => (htick r).2) rfl

theorem startFrame : HornSound s.startFrame := by
  have hadvanced : s.advanceFrame.hornBlocks = s.hornBlocks := by simp [State.hornBlocks, State.advanceFrame_spec]
  have hcompleted : HornSound s.advanceFrame.completeCommit := by
    have horn : s.advanceFrame.committed.horn = s.horn := by
      simp [State.committed, State.copied_frame, State.advanceFrame_spec]
    exact h.redecided horn
  have hcomposed : ∀ x : State, HornSound x → HornSound x.composeFrame := fun x hx =>
    hx.of_blocks (by simp [State.hornBlocks])
  unfold State.startFrame
  split
  · exact hcomposed _ hcompleted
  · exact hcomposed _ (h.of_blocks hadvanced)

theorem passTimedEnd : HornSound s.passTimedEnd := by
  refine h.of_blocks ?_
  unfold State.passTimedEnd
  repeat' split
  all_goals simp [State.hornBlocks]

/-- The other phase of a tone leaves the horn state as it was (R117). -/
theorem endHornPhase : HornSound s.endHornPhase := by
  unfold State.endHornPhase
  split
  · exact h
  · next htone =>
    refine ⟨h.decided.trans ?_, fun hoff => absurd hoff htone⟩
    refine (State.decideHorn_congr rfl fun c => ?_).symm
    exact SameView.hornDemand (.of_fields rfl rfl rfl) (fun _ => rfl) c

/-- A sample that leaves the level alone moves the recovery count, which bears on no decision (R123, R124). -/
theorem takeSample (mv : Nat) : HornSound (s.takeSample mv) := by
  have hlevelled : ∀ x : State, x.horn = s.horn → HornSound (s.levelChanged x) := fun x hx => by
    have hdecided : HornSound (s.surfaceAll x).redecideHorn := h.redecided (by simp [hx])
    refine hdecided.of_blocks ?_
    unfold State.levelChanged
    dsimp only
    split <;> simp [State.hornBlocks]
  have hshedding : (s.supply.sample mv).shedding = s.supply.shedding := by
    unfold SupplyMonitor.sample qualifies
    repeat' split
    all_goals rfl
  unfold State.takeSample
  dsimp only
  split
  · next hlevel => exact h.of_view ⟨rfl, fun _ => rfl, rfl, hlevel, hshedding⟩ (fun _ => rfl) rfl
  · exact hlevelled _ rfl

/-! ### The commands -/

theorem takeInside {f : State → State} (e : takeInside s f = .next t) (hf : ∀ x, HornSound x → HornSound (f x)) :
    HornSound t := by
  unfold Machine.takeInside at e
  split at e <;> cases e
  · exact h
  · exact hf _ h.completeTakeover

theorem takeOutside {dt : Nat} {f : State → State} (e : takeOutside dt s f = .next t)
    (hf : ∀ x, HornSound x → HornSound (f x)) : HornSound t :=
  h.takeInside e fun _ hx => hf _ (hx.of_blocks rfl)

theorem takeRequest {l : Link} {row : Request → Bool} {body : List Byte → State → Reply}
    (e : takeRequest l s row body = .next t) (hbody : ∀ b x, HornSound x → HornSound (body b x).state) :
    HornSound t := by
  refine h.takeInside e fun x hx => ?_
  have hfinish : ∀ (y : Reply) (r : Request), (y.finish l r).hornBlocks = y.state.hornBlocks := fun y r => by
    unfold Reply.finish
    split <;> simp [State.hornBlocks]
  unfold State.execute
  repeat' split
  · exact hx
  · exact (hbody _ x hx).of_blocks (hfinish ..)
  · exact hx

theorem exec {c : Instr} (e : exec c s = .next t) : HornSound t := by
  cases c with
  | peek dt l kind bytes =>
    simp only [Machine.exec, execPeek] at e
    refine h.takeOutside e fun x hx => ?_
    split
    · exact hx
    · exact hx.transact l _ bytes
  | send dt l bytes =>
    simp only [Machine.exec, execSend] at e
    exact h.takeOutside e fun _ hx => hx.transact l _ bytes
  | fetch dt l bytes =>
    simp only [Machine.exec, execFetch] at e
    exact h.takeOutside e fun _ hx => hx.transact l _ bytes
  | linkReset dt l bytes =>
    simp only [Machine.exec, execLinkReset] at e
    exact h.takeOutside e fun _ hx => hx.transact l _ bytes
  | unknownRequest l => exact h.takeRequest e fun _ _ hx => hx
  | attach l => exact h.takeRequest e fun b _ hx => hx.attachRequest l b
  | detachWithdrawAll l => exact h.takeRequest e fun b _ hx => hx.detachRequest l b
  | detachLeave l => exact h.takeRequest e fun b _ hx => hx.detachRequest l b
  | ping l => exact h.takeRequest e fun b _ hx => KeptByOperations.pingRequest l b hx
  | setAttention l => exact h.takeRequest e fun b _ hx => hx.setAttentionRequest l b
  | collect l => exact h.takeRequest e fun b _ hx => hx.collectRequest l b
  | permitGrant l => exact h.takeRequest e fun b _ hx => hx.permitRequest l b
  | permitWithdraw l => exact h.takeRequest e fun b _ hx => hx.permitRequest l b
  | takeover l => exact h.takeRequest e fun b _ hx => hx.takeoverRequest l b
  | takeoverComplete =>
    simp only [Machine.exec, execTakeoverComplete] at e
    exact h.takeInside e fun _ hx => hx
  | yieldRole l => exact h.takeRequest e fun b _ hx => hx.yieldRequest l b
  | claimOrphan l => exact h.takeRequest e fun b _ hx => hx.claimRequest l b
  | post l => exact h.takeRequest e fun b _ hx => hx.postRequest l b
  | amend l => exact h.takeRequest e fun b _ hx => hx.amendRequest l b
  | clear l => exact h.takeRequest e fun b _ hx => hx.clearRequest l b
  | reassert l => exact h.takeRequest e fun b _ hx => hx.reassertRequest l b
  | withdraw l => exact h.takeRequest e fun b _ hx => hx.withdrawRequest l b
  | find l => exact h.takeRequest e fun b _ hx => KeptByOperations.findRequest l b hx
  | query l => exact h.takeRequest e fun b _ hx => KeptByOperations.queryRequest l b hx
  | listGroup l => exact h.takeRequest e fun b _ hx => KeptByOperations.listGroupRequest l b hx
  | panelStatus l => exact h.takeRequest e fun b _ hx => KeptByOperations.panelStatusRequest l b hx
  | readMap l => exact h.takeRequest e fun b _ hx => KeptByOperations.readMapRequest l b hx
  | acknowledgeHandles l => exact h.takeRequest e fun b _ hx => hx.targetsRequest _ _ l b
  | acknowledgeAllVisible l => exact h.takeRequest e fun b _ hx => hx.targetsRequest _ _ l b
  | remoteResetHandles l => exact h.takeRequest e fun b _ hx => hx.targetsRequest _ _ l b
  | remoteResetAllVisible l => exact h.takeRequest e fun b _ hx => hx.targetsRequest _ _ l b
  | silence l => exact h.takeRequest e fun b _ hx => hx.silenceRequest l b
  | retire l => exact h.takeRequest e fun b _ hx => hx.retireRequest l b
  | stageMap l => exact h.takeRequest e fun b _ hx => hx.stageMapRequest l b
  | commitMap l => exact h.takeRequest e fun b _ hx => hx.commitMapRequest l b
  | abortMap l => exact h.takeRequest e fun b _ hx => hx.abortMapRequest l b
  | lampTest l => exact h.takeRequest e fun b _ hx => hx.lampTestRequest l b
  | configure l => exact h.takeRequest e fun b _ hx => hx.configureRequest l b
  | restart l => exact h.takeRequest e fun b _ hx => hx.restartRequest l b
  | ackKeyPress =>
    simp only [Machine.exec, execAckKeyPress] at e
    exact h.takeInside e fun _ hx => hx.recognise _ _ fun _ hy => (hy.chordPress _).ackAction
  | silenceKeyPress =>
    simp only [Machine.exec, execSilenceKeyPress] at e
    exact h.takeInside e fun _ hx => hx.recognise _ _ fun _ hy => hy.silenceAction
  | resetKeyPress =>
    simp only [Machine.exec, execResetKeyPress] at e
    exact h.takeInside e fun _ hx => hx.recognise _ _ fun _ hy => (hy.chordPress _).resetAction
  | testKeyPress =>
    simp only [Machine.exec, execTestKeyPress] at e
    exact h.takeInside e fun _ hx => hx.recognise _ _ fun _ hy => hy.testAction
  | testKeyRelease =>
    simp only [Machine.exec, execTestKeyRelease] at e
    exact h.takeInside e fun _ hx => hx.recognise _ _ fun _ hy => hy.testReleaseAction
  | ackKeyRelease =>
    simp only [Machine.exec, execAckKeyRelease] at e
    exact h.takeInside e fun _ hx => hx.recognise _ _ fun _ hy => hy.of_blocks rfl
  | resetKeyRelease =>
    simp only [Machine.exec, execResetKeyRelease] at e
    exact h.takeInside e fun _ hx => hx.recognise _ _ fun _ hy => hy.of_blocks rfl
  | silenceKeyRelease =>
    simp only [Machine.exec, execSilenceKeyRelease] at e
    exact h.takeInside e fun _ hx => hx.recognise _ _ fun _ hy => hy
  | chordFire =>
    simp only [Machine.exec, execChordFire] at e
    exact h.takeInside e fun _ hx => hx.fireChord
  | tick =>
    simp only [Machine.exec, execTick] at e
    exact h.takeInside e fun _ hx => hx.takeDueExpiries.countTick
  | expire i =>
    simp only [Machine.exec, execExpire] at e
    exact h.takeInside e fun _ hx => hx.expireSlot i
  | keepaliveExpiry l =>
    simp only [Machine.exec, execKeepaliveExpiry] at e
    exact h.takeInside e fun _ hx => hx.expireKeepalive l
  | frameStart =>
    simp only [Machine.exec, execFrameStart] at e
    exact h.takeInside e fun _ hx => hx.startFrame
  | commitCompletion =>
    simp only [Machine.exec, execCommitCompletion] at e
    refine h.takeInside e fun x hx => ?_
    split
    · exact hx.startFrame
    · exact hx
  | lampTestEnd =>
    simp only [Machine.exec, execLampTestEnd] at e
    exact h.takeInside e fun _ hx => hx.passTimedEnd
  | supplySample mv =>
    simp only [Machine.exec, execSupplySample] at e
    exact h.takeInside e fun _ hx => hx.takeSample mv
  | hornPhaseEnd =>
    simp only [Machine.exec, execHornPhaseEnd] at e
    exact h.takeInside e fun _ hx => hx.endHornPhase
  | deviceReset =>
    cases e
    exact hornSound_reset.of_blocks rfl
  | resetRelease =>
    change execResetRelease s = .next t at e
    unfold execResetRelease at e
    split at e <;> cases e
    · exact h.of_blocks rfl
    · exact h
  | keyInputChange dt key c =>
    change execKeyInputChange dt key c s = .next t at e
    unfold execKeyInputChange at e
    split at e
    · cases e
      exact h.of_blocks rfl
    · exact h.takeOutside e fun _ hx => hx.of_blocks rfl

end

end HornSound

/-- Settles O57: a command leaves alone what the decision reads, or re-decides the horn last. -/
theorem stepKeepsHorn : Obligations.StepKeepsHorn := by
  intro s t h e
  unfold step at e
  split at e
  · cases e
    exact h
  · next c rest _ => exact (h.of_blocks rfl : HornSound (s.setPending rest)).exec e

end Sys2Proof.Machine

/-! ## Held in device reset (R101, R130, R146) -/

namespace Sys2Proof.Machine

/-- Settles O3: every other command is an event inside the part, and a held part takes none. -/
theorem heldPartTakesNoEvent : Obligations.HeldPartTakesNoEvent := by
  intro c s hheld hreset hrelease hkey
  cases c
  case deviceReset => exact absurd rfl hreset
  case resetRelease => exact absurd rfl hrelease
  case keyInputChange dt k x => exact absurd rfl (hkey dt k x)
  all_goals exact if_pos hheld

end Sys2Proof.Machine

/-! ## The phases of a tone (R117) -/

namespace Sys2Proof.Machine

theorem State.hornOutput_eq (s : State) : s.hornOutput =
    if s.held = false ∧ s.horn.state ≠ .off ∧ s.horn.sounding = true then .antiphase else .low := by
  unfold State.hornOutput
  cases s.held <;> cases s.horn.state <;> simp

/-- The on-phase and the off-phase of a tone are of one length. -/
theorem HornState.phaseMicros_tone {st : HornState} (h : st ≠ .off) :
    st.phaseMicros = if st = .alarmTone then 250000 else 1000000 := by
  cases st
  case off => exact absurd rfl h
  all_goals rfl

/-- Settles O47: the horn pair by its three conditions, and the end of a phase in OFF and in a tone. -/
theorem hornPhasesAlternate : Obligations.HornPhasesAlternate := by
  refine ⟨State.hornOutput_eq, fun s h => ?_⟩
  have hexec : exec .hornPhaseEnd s = .next s.endHornPhase := takeInside_ready h State.endHornPhase
  refine ⟨fun hoff => ?_, fun htone => ?_⟩
  · rw [hexec, State.endHornPhase, if_pos hoff]
  · rw [hexec, State.endHornPhase, if_neg htone, HornState.phaseMicros_tone htone]
    rfl

end Sys2Proof.Machine

/-! ## Key inputs, releases and reported presses (R100–R104, R110, R111) -/

namespace Sys2Proof.Machine

/-! ### Inputs and releases (R100, R101, R103, R111) -/

/-- A running part takes a key contact's movement at its moment. -/
theorem exec_keyInputChange {s : State} (h : s.ready) (dt : Nat) (k : KeyId) (c : Contact) :
    exec (.keyInputChange dt k c) s =
      .next ((s.after dt).setKeys (s.keys.changeInput k c (s.time.clock + dt))) := by
  have hrun : ¬s.held = true := by simp [h.1]
  exact (if_neg hrun).trans (takeOutside_ready h dt fun x => x.setKeys (x.keys.changeInput k c x.time.clock))

/-- Settles O39: the three cases of a contact's movement, and the releases once recognised. -/
theorem keyInputsAndReleases : Obligations.KeyInputsAndReleases := by
  refine ⟨fun keys k j c => keys.get_set k j c, fun _ => rfl, fun dt k c s => ⟨fun hheld => ?_, fun h hsame => ?_,
    fun h hdiffers => ?_⟩, fun s began h => ⟨fun hbegan hclosed => ?_, fun hbegan hclosed => ?_,
    fun hbegan hclosed => ?_⟩⟩
  · exact if_pos hheld
  · rw [exec_keyInputChange h, KeyPort.changeInput, if_pos hsame]
    rfl
  · rw [exec_keyInputChange h, KeyPort.changeInput, if_neg hdiffers]
    rfl
  all_goals have hdiffers {x : Contact} (hx : x = .closed) : x ≠ .opened := by rw [hx]; decide
  · exact takeInside_recognised h (k := .ack) State.chordRelease hbegan (hdiffers hclosed)
  · exact takeInside_recognised h (k := .reset) State.chordRelease hbegan (hdiffers hclosed)
  · exact takeInside_recognised h (k := .silence) id hbegan (hdiffers hclosed)

/-! ### Presses (R104, R110, R111) -/

/-- The command of a key's press. -/
def keyPress : KeyId → Instr
  | .ack => .ackKeyPress
  | .silence => .silenceKeyPress
  | .reset => .resetKeyPress
  | .test => .testKeyPress

/-- The part at the moment a press is recognised, the chord timer started where ACK or RESET joins the other (R111). -/
def State.pressedAt (s : State) (k : KeyId) (began : Nat) : State :=
  match k with
  | .ack => (s.recognisedAt .ack .closed began).chordPressed .reset
  | .reset => (s.recognisedAt .reset .closed began).chordPressed .ack
  | .silence => s.recognisedAt .silence .closed began
  | .test => s.recognisedAt .test .closed began

/-- What a press does (R104). -/
def State.pressAction (s : State) : KeyId → State
  | .ack => s.ackAction
  | .silence => s.silenceAction
  | .reset => s.resetAction
  | .test => s.testAction

/-- A press that is being timed is recognised, and its action follows (R100, R104). -/
theorem exec_press {s : State} {k : KeyId} {began : Nat} (h : s.ready) (hbegan : s.keys.timing.get k = some began)
    (hopened : s.keys.debounced.get k = .opened) : exec (keyPress k) s = .next ((s.pressedAt k began).pressAction k) := by
  have hdiffers : s.keys.debounced.get k ≠ .closed := by rw [hopened]; decide
  cases k with
  | ack => exact takeInside_recognised h (fun y => (y.chordPress .reset).ackAction) hbegan hdiffers
  | silence => exact takeInside_recognised h State.silenceAction hbegan hdiffers
  | reset => exact takeInside_recognised h (fun y => (y.chordPress .ack).resetAction) hbegan hdiffers
  | test => exact takeInside_recognised h State.testAction hbegan hdiffers

/-- The start of the chord timer touches nothing else. -/
theorem State.chordPressed_frame (s : State) (other : KeyId) :
    (s.chordPressed other).sessions = s.sessions ∧ (s.chordPressed other).ports = s.ports ∧
    (s.chordPressed other).table = s.table ∧ (s.chordPressed other).map = s.map ∧
    (s.chordPressed other).panel = s.panel ∧ (s.chordPressed other).supply = s.supply ∧
    (s.chordPressed other).keys.modes = s.keys.modes := by
  unfold State.chordPressed
  split <;> exact ⟨rfl, rfl, rfl, rfl, rfl, rfl, rfl⟩

/-- Before its action a press touches the clock and the Key Port alone, and no mode. -/
theorem State.pressedAt_frame (s : State) (k : KeyId) (began : Nat) :
    (s.pressedAt k began).sessions = s.sessions ∧ (s.pressedAt k began).ports = s.ports ∧
    (s.pressedAt k began).table = s.table ∧ (s.pressedAt k began).map = s.map ∧
    (s.pressedAt k began).panel = s.panel ∧ (s.pressedAt k began).supply = s.supply ∧
    (s.pressedAt k began).keys.modes = s.keys.modes := by
  cases k with
  | ack => exact State.chordPressed_frame ..
  | reset => exact State.chordPressed_frame ..
  | silence => exact ⟨rfl, rfl, rfl, rfl, rfl, rfl, rfl⟩
  | test => exact ⟨rfl, rfl, rfl, rfl, rfl, rfl, rfl⟩

theorem State.isReported_pressedAt {s : State} {k j : KeyId} {began : Nat} :
    (s.pressedAt j began).isReported k ↔ s.isReported k := by
  obtain ⟨sessions, -, -, -, panel, -, modes⟩ := s.pressedAt_frame j began
  rw [State.isReported, State.actsLocally, sessions, panel, modes]
  rfl

/-- A key that does not act locally has the effective mode REMOTE (R102). -/
theorem State.effectiveMode_remote {s : State} {k : KeyId} (h : ¬s.actsLocally k) : s.effectiveMode k = .remote := by
  obtain ⟨hprimary, hmode⟩ := not_or.mp h
  unfold State.effectiveMode
  split
  · cases hk : s.keys.modes.get k with
    | isLocal => exact absurd hk hmode
    | remote => rfl
  · next hnone => exact absurd hnone hprimary

/-- A reported press goes to the primary (R104, R110). -/
theorem State.pressAction_reported {s : State} {k : KeyId} (h : s.isReported k) : s.pressAction k = s.reportKey k := by
  by_cases hlocal : s.actsLocally k
  · obtain ⟨hkey, hrun⟩ := h.resolve_left (not_not.mpr hlocal)
    have hmode := State.effectiveMode_local hlocal
    rcases hkey with rfl | rfl
    · simp only [State.pressAction, State.ackAction, hmode, hrun, if_true]
    · simp only [State.pressAction, State.resetAction, hmode, hrun, if_true]
  · have hmode := State.effectiveMode_remote hlocal
    cases k <;>
      simp only [State.pressAction, State.ackAction, State.silenceAction, State.resetAction, State.testAction, hmode]

/-- Settles O37: the press once recognised, and the KEY notice to the primary. -/
theorem reportedPressesReachPrimary : Obligations.ReportedPressesReachPrimary := by
  intro s k began h hbegan hopened hreported pressed now press
  have hnow : now = s.pressedAt k began := by cases k <;> rfl
  have hpress : press = keyPress k := by cases k <;> rfl
  have hsessions : now.sessions = s.sessions := hnow ▸ (s.pressedAt_frame k began).1
  have haction : now.pressAction k = now.reportKey k :=
    State.pressAction_reported (hnow ▸ State.isReported_pressedAt.mpr hreported)
  rw [hpress, exec_press h hbegan hopened, ← hnow, haction, State.reportKey, State.notifyPrimary, hsessions]
  cases s.sessions.primary with
  | none => rfl
  | some p =>
    simp only [State.notify, State.inSession_congr hsessions, State.session_congr hsessions]
    split
    · simp only [State.setSession, hsessions]
      rfl
    · rfl

end Sys2Proof.Machine

/-! ## Silencing (R41, R106, R114) -/

namespace Sys2Proof.Machine

/-- A slot whose record, if it holds one, is silenced. -/
def Slot.silenced (x : Slot) : Slot :=
  match x.content with
  | .live r => { x with content := .live { r with silenced := true } }
  | _ => x

theorem Slot.silenced_live {x : Slot} {r : Record} (h : x.content = .live r) :
    x.silenced = { x with content := .live { r with silenced := true } } := by
  simp [Slot.silenced, h]

theorem Slot.silenced_silenced (x : Slot) : x.silenced.silenced = x.silenced := by
  obtain ⟨gen, content⟩ := x
  cases content <;> rfl

/-- One record silenced: nothing else changes, and the Resolver decides as before (R41). -/
theorem State.silenceSlot_spec (s : State) (i : SlotIx) : SameView s (s.silenceSlot i) ∧
    (∀ j, (s.silenceSlot i).slot j = if j = i then (s.slot i).silenced else s.slot j) ∧
    (s.silenceSlot i).table.low = s.table.low := by
  unfold State.silenceSlot
  cases hr : s.record i with
  | none =>
    have hdead : (s.slot i).silenced = s.slot i := by
      unfold Slot.silenced
      split
      · next r hx => rw [State.record_eq_some.mpr hx] at hr; cases hr
      · rfl
    have hslot : ∀ j, s.slot j = if j = i then (s.slot i).silenced else s.slot j := fun j => by
      by_cases hj : j = i
      · rw [if_pos hj, hj, hdead]
      · rw [if_neg hj]
    exact ⟨.refl s, hslot, rfl⟩
  | some r =>
    refine ⟨.silence s true hr, fun j => ?_, by simp [State.setRecord]⟩
    rw [Slot.silenced_live (State.record_eq_some.mp hr)]
    exact State.slot_setRecord ..

/-- Several records silenced. -/
theorem State.silenceSlots_spec (is : List SlotIx) (s : State) : SameView s (is.foldl State.silenceSlot s) ∧
    (∀ j, (is.foldl State.silenceSlot s).slot j = if j ∈ is then (s.slot j).silenced else s.slot j) ∧
    (is.foldl State.silenceSlot s).table.low = s.table.low := by
  induction is generalizing s with
  | nil => exact ⟨.refl s, by simp, rfl⟩
  | cons i is ih =>
    obtain ⟨hview, hslot, hlow⟩ := s.silenceSlot_spec i
    obtain ⟨hviews, hslots, hlows⟩ := ih (s.silenceSlot i)
    refine ⟨hview.trans hviews, fun j => ?_, hlows.trans hlow⟩
    rw [List.foldl_cons, hslots j, hslot j]
    by_cases hj : j = i
    · subst hj
      simp [Slot.silenced_silenced]
    · simp [hj]

/-- The visible unacknowledged records silenced, and the horn decided behind them. -/
theorem Silenced.of_silenceVisible {s t : State} (htable : t.table = s.silenceVisible.table)
    (hsessions : t.sessions = s.sessions) (hrest : s.sameBut t) : Silenced s t := by
  obtain ⟨hview, hslot, hlow⟩ := State.silenceSlots_spec s.visibleUnacknowledged s
  refine ⟨fun j => ?_, ?_, ?_, hsessions, hrest⟩
  · rw [State.slot_congr (s := s.silenceVisible) (by rw [htable])]
    refine (hslot j).trans ?_
    cases hx : (s.slot j).content with
    | live r =>
      have hr := State.record_eq_some.mpr hx
      have hmem : j ∈ s.visibleUnacknowledged ↔ s.visibleSlot r.group = some j ∧ r.state.unacknowledged = true := by
        simp [State.visibleUnacknowledged, State.mem_visibleIn, State.isVisible_iff, hr]
      simp only [hmem, Slot.silenced_live hx]
    | free => simp [Slot.silenced, hx]
    | tombstone e => simp [Slot.silenced, hx]
  · rw [htable]
    exact hview.arrival
  · rw [htable]
    exact hlow

theorem State.isUnsilenced_iff {s : State} {i : SlotIx} :
    s.isUnsilenced i = true ↔ ∃ q, s.record i = some q ∧ q.silenced = false := by
  unfold State.isUnsilenced
  cases s.record i <;> simp

/-- Settles O31: the request past its checks, and the records that it silences. -/
theorem silenceRequestSilences : Obligations.SilenceRequestSilences := by
  refine ⟨fun s i => State.isUnsilenced_iff, fun l s r h hcode hpayload hcommands => ?_⟩
  set count := byteOf (s.visibleUnacknowledged.countP s.isUnsilenced)
  have hexec : exec (.silence l) s = .next (s.silenceVisible.settled l r [count]) := by
    refine (takeRequest_primary h (hasCode_of_eq hcode) hcommands.1 hcommands.2 rfl).trans ?_
    rw [hpayload]
    exact congrArg _ (Reply.finish_settled ..)
  exact ⟨_, hexec, .of_silenceVisible (State.settled_table ..) (by simp) (State.sameBut_settled (by simp) ..),
    State.settled_ports (by simp) ..⟩

end Sys2Proof.Machine

/-! ## Local presses of ACK, RESET and SILENCE (R104–R107, R111) -/

namespace Sys2Proof.Machine

/-- ACK or RESET delivered to distinct slots, and the horn decided behind them (R28, R116). -/
theorem Delivered.of_deliverAll {s t : State} {ev : RecordEvent} (hev : ev.isAnswer) {c : Cause}
    {targets : List SlotIx} (hnodup : targets.Nodup) (htable : t.table = (s.deliverAll ev c targets).table)
    (hsessions : t.sessions = (s.deliverAll ev c targets).sessions) (hrest : s.sameBut t) :
    Delivered s t ev c targets := by
  have h := s.deliverAll_inTurn hev c hnodup
  have hview : SameView (s.deliverAll ev c targets) t := by
    obtain ⟨-, -, map, -, -, supply, -⟩ := hrest
    exact .of_fields htable (by simp [map]) (by simp [supply])
  have hstands : ∀ j, s.answersTo ev j = false → s.eventSlot ev c j = s.slot j ∧ s.retires ev j = false ∧
      ∀ m, s.eventChanged ev c j m = (s.session m).changed := fun j hj => (State.not_answersTo hj c).2
  refine ⟨fun j => ?_, ?_, ?_, fun m => ?_, fun m j => ?_, ?_, hrest⟩
  · have hslot : s.eventSlots ev c (targets.filter (s.answersTo ev)) j =
        if j ∈ targets then s.eventSlot ev c j else s.slot j := by
      cases hans : s.answersTo ev j <;> simp [State.eventSlots, hans, hstands]
    rw [← hslot]
    exact State.surfacedInTurn_congr (State.slot_congr (by rw [htable]) j) hview.visibleSlot (h.slots j)
  · rw [htable, h.arrival]
    refine List.filter_congr fun j _ => ?_
    cases hans : s.answersTo ev j <;> simp [hans, hstands]
  · rw [htable, h.low, lowAfterFreeing, lowAfterFreeing, htable]
  · rw [State.session_congr hsessions]
    exact h.sessions m
  · rw [State.session_congr hsessions, h.changed m j]
    cases hans : s.answersTo ev j <;> simp [hans, hstands]
  · simpa only [State.sameRoles, hsessions] using h.roles

/-- What a press takes as its targets is what was visible before it. -/
theorem State.pressedAt_visibleIn (s : State) (k : KeyId) (began : Nat) (want : Annunciation → Bool) :
    (s.pressedAt k began).visibleIn want = s.visibleIn want := by
  obtain ⟨-, -, table, map, -, supply, -⟩ := s.pressedAt_frame k began
  exact SameView.visibleIn (.of_fields table (congrArg _ map) supply) want

section
variable {s : State} {ev : RecordEvent} {k : KeyId}

/-- An ACK or RESET press that acts locally outside a lamp test delivers its event (R105, R107). -/
theorem State.pressAction_delivers (hk : k = .ack ∧ ev = .ack ∨ k = .reset ∧ ev = .reset) (hlocal : s.actsLocally k)
    (hidle : s.panel.lamp.running = false) :
    s.pressAction k = (s.deliverAll ev .operator (s.visibleTargets ev)).redecideHorn := by
  have hmode := State.effectiveMode_local hlocal
  have hoff : ¬s.panel.lamp.running = true := by simp [hidle]
  rcases hk with ⟨rfl, rfl⟩ | ⟨rfl, rfl⟩
  · simp only [State.pressAction, State.ackAction, hmode, if_neg hoff]
    rfl
  · simp only [State.pressAction, State.resetAction, hmode, if_neg hoff]
    rfl

theorem State.pressAction_silences (hlocal : s.actsLocally .silence) :
    s.pressAction .silence = s.silenceVisible.redecideHorn := by
  simp only [State.pressAction, State.silenceAction, State.effectiveMode_local hlocal]

end

theorem State.actsLocally_pressedAt {s : State} {k : KeyId} {began : Nat} :
    (s.pressedAt k began).actsLocally k ↔ s.actsLocally k := by
  obtain ⟨sessions, -, -, -, -, -, modes⟩ := s.pressedAt_frame k began
  rw [State.actsLocally, sessions, modes]
  rfl

/-- A press of ACK or RESET, whole (R100, R104, R105, R107). -/
theorem exec_press_delivers {s : State} {k : KeyId} {ev : RecordEvent} {began : Nat}
    (hk : k = .ack ∧ ev = .ack ∨ k = .reset ∧ ev = .reset) (h : s.ready) (hbegan : s.keys.timing.get k = some began)
    (hopened : s.keys.debounced.get k = .opened) (hlocal : s.actsLocally k) (hidle : s.panel.lamp.running = false) :
    ∃ t, exec (keyPress k) s = .next t ∧ Delivered (s.pressedAt k began) t ev .operator (s.visibleTargets ev) ∧
      t.ports = s.ports := by
  have hev : ev.isAnswer := hk.imp And.right And.right
  obtain ⟨-, ports, -, -, panel, -⟩ := s.pressedAt_frame k began
  have htargets : (s.pressedAt k began).visibleTargets ev = s.visibleTargets ev := by
    simp only [State.visibleTargets, State.visibleUnacknowledged, State.visibleAwaitingReset, s.pressedAt_visibleIn]
  have haction := State.pressAction_delivers hk (State.actsLocally_pressedAt.mpr hlocal)
    (s := s.pressedAt k began) (by rw [panel, hidle])
  rw [htargets] at haction
  refine ⟨_, (exec_press h hbegan hopened).trans (congrArg _ haction), ?_, by simp [ports]⟩
  exact .of_deliverAll hev (s.visibleTargets_answer hev).1 (by simp) (by simp) (State.sameBut_redecided (by simp))

/-- Settles O36: the presses once recognised, by what each delivers or silences. -/
theorem localPressesAct : Obligations.LocalPressesAct := by
  intro s began h
  refine ⟨fun hbegan hopened hlocal hidle => ?_, fun hbegan hopened hlocal hidle => ?_,
    fun hbegan hopened hlocal => ?_⟩
  · exact exec_press_delivers (.inl ⟨rfl, rfl⟩) h hbegan hopened hlocal hidle
  · exact exec_press_delivers (.inr ⟨rfl, rfl⟩) h hbegan hopened hlocal hidle
  · have haction := State.pressAction_silences (s := s.recognisedAt .silence .closed began) hlocal
    exact ⟨_, (exec_press (k := .silence) h hbegan hopened).trans (congrArg _ haction),
      .of_silenceVisible (by simp) (by simp) (State.sameBut_redecided (by simp)), by simp [State.recognisedAt]⟩

end Sys2Proof.Machine

/-! ## CONFIGURE (R111, R117–R119, R127, R180) -/

namespace Sys2Proof.Machine

/-- CONFIGURE before its horn decision: the fields stored, the groups re-decided where shedding has changed. -/
def State.configured (s : State) (p : ConfigurePayload) : State :=
  if s.supply.shedding = p.shedding then s.storeConfiguration p else s.surfaceAll (s.storeConfiguration p)

theorem State.configured_frame (s : State) (p : ConfigurePayload) :
    (s.configured p).held = s.held ∧ (s.configured p).time = s.time ∧ (s.configured p).ports = s.ports ∧
    (s.configured p).sessions = s.sessions ∧ (s.configured p).map = s.map ∧ (s.configured p).panel = s.panel ∧
    (s.configured p).keys = s.keys.configure p ∧ (s.configured p).horn = { s.horn with enable := p.hornEnable } ∧
    (s.configured p).supply = { s.supply with shedding := p.shedding } ∧ (s.configured p).pending = s.pending := by
  unfold State.configured
  split
  · exact ⟨rfl, rfl, rfl, rfl, rfl, rfl, rfl, rfl, rfl, rfl⟩
  · exact (s.storeConfiguration p).surfaceAll_frame s

/-- The table after CONFIGURE: where shedding stands nothing is re-decided (R127). -/
theorem State.configured_table (s : State) (p : ConfigurePayload) :
    (∀ j, (s.configured p).slot j =
      if s.supply.shedding = p.shedding then s.slot j else s.redecidedSlot (s.configured p) j) ∧
    (s.configured p).table.arrival = s.table.arrival ∧ (s.configured p).table.low = s.table.low := by
  unfold State.configured
  split
  · exact ⟨fun j => rfl, rfl, rfl⟩
  · exact ⟨State.surfaceAll_redecided (s := s.storeConfiguration p) rfl,
      (State.surfaceAll_spec s (s.storeConfiguration p)).1.arrival, State.surfaceAll_low s (s.storeConfiguration p)⟩

/-- Settles O34: the request past its checks, the fields and groups by `State.configured`, and the one decision of the
horn. -/
theorem configureStoresEveryField : Obligations.ConfigureStoresEveryField := by
  intro l s r p h hcode hp hcommands
  have hexec : exec (.configure l) s = .next ((s.configured p).settled l r []) := by
    refine (takeRequest_primary h (hasCode_of_eq hcode) hcommands.1 hcommands.2 rfl).trans ?_
    rw [hp, needPayload_some]
    exact congrArg _ (Reply.finish_settled ..)
  obtain ⟨hslot, harrival, hlow⟩ := s.configured_table p
  obtain ⟨held, time, ports, sessions, map, panel, keys, horn, supply, pending⟩ := s.configured_frame p
  generalize s.configured p = u at *
  obtain ⟨held', time', -, -, -, map', panel', keys', supply', pending'⟩ := u.redecideHorn_frame
  obtain ⟨henable, hhorn⟩ := State.settled_horn (s := u) rfl l r []
  have hview : SameView u (u.settled l r []) := .of_fields (State.settled_table ..) (congrArg _ map') supply'
  refine ⟨_, hexec, by rw [henable, horn], ?_, supply'.trans supply, keys'.trans keys, fun j => ?_,
    by rw [State.settled_table, harrival], by rw [State.settled_table, hlow], by rw [State.settled_sessions, sessions],
    State.settled_ports ports .., held'.trans held, time'.trans time, map'.trans map, panel'.trans panel,
    pending'.trans pending⟩
  · refine hhorn.trans ?_
    simp only [State.hornAfter, horn]
  · rw [State.settled_slot, hslot j, State.redecidedSlot_congr (.refl s) (fun _ => rfl) hview.symm]

end Sys2Proof.Machine

/-! ## The chord's purge (R111–R113)

The orphans are retired one after the other. A retirement uncovers records and hides none, so each record that is left is
judged against the state before the first of them. -/

namespace Sys2Proof.Machine

/-! ### Surfacing while records recede in turn -/

section Surfacing
variable {s u t : State} {touched : List SlotIx} {j : SlotIx} {x : Slot}

theorem State.surfacedInTurn_same (h : s.surfacedInTurn t touched j x) : x.sameButSurfaced (t.slot j) := by
  unfold State.surfacedInTurn at h
  split at h
  · next r q hr hq => exact h.1.imp id fun e => ⟨r, hr, e⟩
  · exact .inl h

/-- One more record recedes, in slot `i`, and its group is re-decided. A record that is still unacknowledged was so
before, and has not been hidden since. -/
theorem State.surfacedInTurn_next {i : SlotIx} {p p' : Record} (h : s.surfacedInTurn u touched j x)
    (hp : s.record i = some p) (hu : u.record i = some p') (hgroup : p'.group = p.group) (hrecedes : Recedes u t i)
    (hslot : t.slot j = surfacedSlot u t p.group j (u.slot j))
    (hx : ∀ r, x.content = .live r → ∃ q, s.record j = some q ∧ r.group = q.group ∧
      (r.state.unacknowledged = true → q.state.unacknowledged = true ∧
        ∀ g, s.visibleSlot g = some j → u.visibleSlot g = some j)) :
    s.surfacedInTurn t (touched ++ [i]) j x := by
  by_cases hlive : ∃ r, x.content = .live r
  · obtain ⟨r, hr⟩ := hlive
    obtain ⟨q, hq, hrq, hunacked⟩ := hx r hr
    rw [State.surfacedInTurn_live hr hq] at h ⊢
    obtain ⟨hform, hcleared, hseen⟩ := h
    set cleared : Slot := { x with content := .live { r with silenced := false } }
    obtain ⟨r', hr', hstate, hgroup', hclear⟩ : ∃ r', (u.slot j).content = .live r' ∧ r'.state = r.state ∧
        r'.group = r.group ∧ { u.slot j with content := .live { r' with silenced := false } } = cleared := by
      rcases hform with e | e
      · exact ⟨r, by rw [e, hr], rfl, rfl, by rw [e]⟩
      · exact ⟨{ r with silenced := false }, by rw [e], rfl, rfl, by rw [e]⟩
    rcases surfacedSlot_cases (s := u) (t := t) (g := p.group) (j := j) hr' with
      ⟨⟨hvisible, hhidden, hunack⟩, e⟩ | ⟨hnot, e⟩
    · -- the record surfaces now
      have hsurfaced : t.slot j = cleared := (hslot.trans e).trans hclear
      obtain ⟨hqunack, hstays⟩ := hunacked (hstate ▸ hunack)
      have hpq : p.group = q.group := by
        obtain ⟨y, hy, hyp⟩ := State.visibleSlot_record hvisible
        have hyr : y.group = r.group := by
          rw [State.record_eq_some, hsurfaced] at hy
          rw [← Content.live.inj hy]
        exact hyp.symm.trans (hyr.trans hrq)
      refine ⟨.inr hsurfaced, fun _ => ⟨hqunack, fun hv => ?_, i, by simp, p, hp, hpq⟩, fun _ _ _ => hsurfaced⟩
      exact hhidden (hpq ▸ hstays _ hv)
    · -- the record stands
      have hstands : t.slot j = u.slot j := hslot.trans e
      rw [hstands]
      refine ⟨hform, fun hne => ?_, fun hvisible hhidden hunack => ?_⟩
      · obtain ⟨hq', hhidden, k, hk, hkgroup⟩ := hcleared hne
        exact ⟨hq', hhidden, k, List.mem_append_left _ hk, hkgroup⟩
      · refine hseen ?_ hhidden hunack
        by_cases hpr : p.group = r.group
        · by_contra hnv
          rw [hpr, hstate] at hnot
          exact hnot ⟨hvisible, hnv, hunack⟩
        · exact hrecedes.visibleSlot_other hu (hgroup ▸ hpr) hvisible
  · have hdead := not_exists.mp hlive
    rw [State.surfacedInTurn_dead hdead] at h ⊢
    rw [hslot, h, surfacedSlot_of_acknowledged fun r hr => absurd hr (hdead r)]

end Surfacing

/-! ### Orphans freed in turn (R112) -/

theorem Slot.freed_content_ne_live (x : Slot) (r : Record) : x.freed.content ≠ .live r := by
  simp [Slot.freed]

/-- A slot freed holds no record, whatever is re-decided. -/
theorem surfacedSlot_freed (s t : State) (g : Group) (j : SlotIx) (x : Slot) :
    surfacedSlot s t g j x.freed = x.freed :=
  surfacedSlot_of_acknowledged fun r hr => absurd hr (x.freed_content_ne_live r)

/-- A record that is retired recedes. -/
theorem State.retireFree_recedes {s : State} {i : SlotIx} {r : Record} (hr : s.record i = some r) :
    Recedes s (s.retireFree i) i := by
  obtain ⟨hslot, harrival, -⟩ := State.retireFree_spec hr
  refine ⟨.inr harrival, fun j hj => ?_, fun q hq => ?_, by simp, by simp⟩
  · have hother := hslot j
    rw [if_neg hj] at hother
    exact surfacedSlot_shown _ _ _ _ hother
  · have hself := hslot i
    rw [if_pos rfl, surfacedSlot_freed] at hself
    rw [State.record_eq_some, hself] at hq
    cases hq

theorem State.mem_orphanSlots {s : State} {i : SlotIx} : i ∈ s.orphanSlots ↔ (s.slot i).isOrphan = true := by
  simp [State.orphanSlots, allSlots]

/-- From `s` to `u` the orphans in the slots `touched` have been retired in turn. Other records that were visible are so
still. -/
structure Purging (s u : State) (touched : List SlotIx) : Prop where
  slots : ∀ j, s.surfacedInTurn u touched j (if j ∈ touched then (s.slot j).freed else s.slot j)
  stays : ∀ g j, j ∉ touched → s.visibleSlot g = some j → u.visibleSlot g = some j
  arrival : u.table.arrival = s.table.arrival.filter (· ∉ touched)
  freeing : s.table.freeCount ≤ u.table.freeCount
  low : u.table.low = lowAfterFreeing s u
  sessions : ∀ m, u.session m = { s.session m with changed := (s.session m).changed.filter (· ∉ touched) }
  roles : s.sameRoles u

/-- None has been retired, and nothing that the Resolver reads has changed. -/
theorem Purging.start {s u : State} (htable : u.table = s.table) (hsessions : u.sessions = s.sessions)
    (hmap : u.map = s.map) (hsupply : u.supply = s.supply) : Purging s u [] where
  slots j := by
    have hslot : u.slot j = s.slot j := State.slot_congr (by rw [htable]) j
    have hview : SameView s u := .of_fields htable (congrArg _ hmap) hsupply
    rw [if_neg (by simp)]
    cases hx : (s.slot j).content with
    | live r =>
      rw [State.surfacedInTurn_live hx (State.record_eq_some.mpr hx)]
      exact ⟨.inl hslot, fun h => absurd hslot h, fun hv hn => absurd (hview.visibleSlot _ ▸ hv) hn⟩
    | free => exact (State.surfacedInTurn_dead (by simp [hx])).mpr hslot
    | tombstone e => exact (State.surfacedInTurn_dead (by simp [hx])).mpr hslot
  stays g j _ hv := (SameView.visibleSlot (.of_fields htable (congrArg _ hmap) hsupply) g).trans hv
  arrival := by simp [htable]
  freeing := by rw [htable]
  low := by rw [lowAfterFreeing_of_count (by rw [htable]), htable]
  sessions m := by simp [State.session_congr hsessions]
  roles := by simp [State.sameRoles, hsessions]

/-- One more orphan is retired. -/
theorem Purging.next {s u : State} {touched : List SlotIx} (h : Purging s u touched) {i : SlotIx} (hi : i ∉ touched)
    (horphan : (s.slot i).isOrphan = true) : Purging s (u.retireFree i) (touched ++ [i]) := by
  obtain ⟨p, hcontent, -⟩ := Slot.isOrphan_iff.mp horphan
  have hp : s.record i = some p := State.record_eq_some.mpr hcontent
  have hsame := State.surfacedInTurn_same (h.slots i)
  rw [if_neg hi] at hsame
  obtain ⟨b, hu⟩ := hsame.record hp
  obtain ⟨hslot, harrival, hlow, hsession, hroles⟩ := State.retireFree_spec hu
  have hrecedes := State.retireFree_recedes hu
  have hfreeing : u.table.freeCount ≤ (u.retireFree i).table.freeCount := by
    refine Table.freeCount_mono fun j hj => ?_
    change ((u.retireFree i).slot j).isFree = true
    rw [hslot j, (surfacedSlot_kind ..).2.1]
    split
    · rfl
    · exact hj
  refine ⟨fun j => ?_, fun g j hj hv => ?_, ?_, h.freeing.trans hfreeing, ?_, fun m => ?_,
    State.sameRoles_trans h.roles hroles⟩
  · by_cases hj : j = i
    · subst hj
      have hgen : (u.slot j).gen = (s.slot j).gen := by
        rcases hsame with e | ⟨r, -, e⟩ <;> rw [e]
      rw [if_pos (by simp), State.surfacedInTurn_dead (s.slot j).freed_content_ne_live, hslot j, if_pos rfl, surfacedSlot_freed, Slot.freed, hgen]
      rfl
    · have hother := hslot j
      rw [if_neg hj] at hother
      have htouched : j ∈ touched ++ [i] ↔ j ∈ touched := by simp [hj]
      simp only [htouched]
      refine State.surfacedInTurn_next (h.slots j) hp hu rfl hrecedes hother fun r hr => ?_
      split at hr
      · cases hr
      · next hjt => exact ⟨r, State.record_eq_some.mpr hr, rfl, fun hunack => ⟨hunack, fun g => h.stays g j hjt⟩⟩
  · rw [List.mem_append, List.mem_singleton, not_or] at hj
    exact hrecedes.stays hj.2 (h.stays g j hj.1 hv)
  · rw [harrival, h.arrival, List.filter_filter]
    exact List.filter_congr fun j _ => by simp [and_comm]
  · rw [hlow, lowAfterFreeing_trans h.low h.freeing hfreeing]
  · rw [hsession m, h.sessions m]
    refine congrArg (fun c => { s.session m with changed := c }) ?_
    rw [List.filter_filter]
    exact List.filter_congr fun j _ => by simp [and_comm]

/-- Distinct orphans retired in turn. -/
theorem Purging.all {s u : State} (h : Purging s u []) {orphans : List SlotIx} (hnodup : orphans.Nodup)
    (horphans : ∀ i ∈ orphans, (s.slot i).isOrphan = true) :
    Purging s (orphans.foldl State.retireFree u) orphans := by
  induction orphans using List.reverseRecOn with
  | nil => exact h
  | append_singleton is i ih =>
    obtain ⟨his, -, hdisjoint⟩ := List.nodup_append'.mp hnodup
    have hi : i ∉ is := fun hmem => hdisjoint hmem (List.mem_singleton_self i)
    rw [List.foldl_append]
    exact (ih his fun k hk => horphans k (List.mem_append_left _ hk)).next hi (horphans i (by simp))

/-! ### The chord fires (R111–R113) -/

/-- The part with its chord timer FIRED, at the moment its count ends (R111). -/
def State.chordFired (s : State) (fires : Nat) : State :=
  (s.reach fires).setKeys { s.keys with chord := .fired }

theorem State.fireChord_timing {s : State} {fires : Nat} (h : s.keys.chord = .timing fires) :
    s.fireChord = ((s.chordFired fires).purgeOrphans.notifyPrimary .putPurge).redecideHorn := by
  unfold State.fireChord
  rw [h]
  rfl

theorem State.purgeOrphans_purging (s : State) (fires : Nat) :
    Purging s (s.chordFired fires).purgeOrphans s.orphanSlots :=
  (Purging.start rfl rfl rfl rfl : Purging s (s.chordFired fires) []).all
    ((List.nodup_finRange 64).filter _) fun _ hi => State.mem_orphanSlots.mp hi

/-- Once every orphan is retired none is left. -/
theorem Purging.no_orphan {s u : State} (h : Purging s u s.orphanSlots) : u.table.orphanCount = 0 := by
  have hnone : ∀ j, (u.slot j).isOrphan = false := by
    intro j
    have hkind : ∀ {x y : Slot}, x.sameButSurfaced y → y.isOrphan = x.isOrphan := by
      rintro x y (rfl | ⟨r, hr, rfl⟩)
      · rfl
      · simp [Slot.isOrphan, hr]
    rw [hkind (State.surfacedInTurn_same (h.slots j))]
    split
    · rfl
    · next hj => simpa [State.mem_orphanSlots] using hj
  rw [Table.orphanCount, u.countP_slots hnone]
  simp

/-- Settles O40: the timer FIRED, the purge by `State.purgeOrphans_purging`, and the notice and the horn behind it. -/
theorem chordPurgesOrphans : Obligations.ChordPurgesOrphans := by
  intro s f h hchord
  have hexec : exec .chordFire s = .next s.fireChord := takeInside_ready h State.fireChord
  rw [State.fireChord_timing hchord] at hexec
  have hpurge := s.purgeOrphans_purging f
  obtain ⟨held, time, ports, map, panel, keys, horn, supply, pending⟩ := (s.chordFired f).purgeOrphans_frame
  generalize (s.chordFired f).purgeOrphans = u at *
  obtain ⟨held', time', ports', table', map', panel', keys', horn', supply', pending'⟩ :=
    u.notifyPrimary_frame .putPurge
  have hroles := u.notifyPrimary_roles .putPurge
  have hsession := fun m => u.notifyPrimary_session m .putPurge
  generalize u.notifyPrimary .putPurge = v at *
  obtain ⟨held'', time'', ports'', sessions'', table'', map'', panel'', keys'', supply'', pending''⟩ :=
    v.redecideHorn_frame
  have htable : v.redecideHorn.table = u.table := table''.trans table'
  have hview : SameView u v.redecideHorn :=
    .of_fields htable (congrArg _ (map''.trans map')) (supply''.trans supply')
  have hin : ∀ m, u.inSession m = s.inSession m := fun m =>
    State.inSession_of_session (by rw [hpurge.sessions m])
  have hleft : ∀ j, decide (j ∉ s.orphanSlots) = !(s.slot j).isOrphan := fun j => by
    simp [State.mem_orphanSlots]
  obtain ⟨hdecided, henable, -⟩ := v.redecideHorn_spec
  refine ⟨_, hexec, fun j => ?_, ?_, ?_, ?_, fun m => ?_, ?_, keys''.trans (keys'.trans keys),
    time''.trans (time'.trans time), ?_, ?_, ports''.trans (ports'.trans ports), held''.trans (held'.trans held),
    map''.trans (map'.trans map), panel''.trans (panel'.trans panel), supply''.trans (supply'.trans supply),
    pending''.trans (pending'.trans pending)⟩
  · have hslot := hpurge.slots j
    simp only [State.mem_orphanSlots] at hslot
    exact State.surfacedInTurn_congr (State.slot_congr (by rw [htable]) j) hview.visibleSlot hslot
  · rw [htable]
    exact hpurge.no_orphan
  · rw [htable, hpurge.arrival]
    exact List.filter_congr fun j _ => hleft j
  · rw [htable, hpurge.low, lowAfterFreeing, lowAfterFreeing, htable]
  · rw [State.session_congr sessions'', hsession m, hpurge.roles.1, hin m, hpurge.sessions m]
    simp only [hleft]
    split <;> rfl
  · have hpurged := State.sameRoles_trans hpurge.roles hroles
    simpa only [State.sameRoles, sessions''] using hpurged
  · have hhorn : v.horn = s.horn := horn'.trans horn
    exact v.redecideHorn_hornAfter.trans (State.hornAfter_congr hhorn.symm rfl rfl rfl).symm
  · rw [henable, horn', horn]
    rfl

end Sys2Proof.Machine

/-! ## Supply samples (R122–R126) -/

namespace Sys2Proof.Machine

/-! ### The level and the recovery count -/

/-- The Supply Monitor with a new level and recovery count, as `SupplyMonitor.levelAfter` gives them. -/
def SupplyMonitor.movedTo (m : SupplyMonitor) (x : Level × Fin 2) : SupplyMonitor :=
  { m with level := x.1, recovery := x.2 }

theorem qualifies_movedTo (m : SupplyMonitor) (upTo : Level) :
    qualifies m upTo = m.movedTo (if m.recovery = 1 then (upTo, 0) else (m.level, 1)) := by
  unfold qualifies
  split <;> rfl

/-- A sample moves the level and the count as R123 and R124 say, and never the shedding. -/
theorem SupplyMonitor.sample_eq (m : SupplyMonitor) (mv : Nat) : m.sample mv = m.movedTo (m.levelAfter mv) := by
  obtain ⟨level, recovery, shedding⟩ := m
  cases level with
  | normal =>
    simp only [SupplyMonitor.levelAfter, apply_ite (SupplyMonitor.movedTo _)]
    rfl
  | low =>
    simp only [SupplyMonitor.sample, SupplyMonitor.levelAfter, qualifies_movedTo, apply_ite (SupplyMonitor.movedTo _)]
    rfl
  | critical =>
    simp only [SupplyMonitor.sample, SupplyMonitor.levelAfter, qualifies_movedTo, apply_ite (SupplyMonitor.movedTo _)]
    rfl

/-- The part at the moment of a sample, the level and the count moved and nothing handed on. -/
def State.sampled (s : State) (mv : Nat) : State :=
  { s with
    time :=
      { s.time with
        clock := max s.time.clock (500000 * (s.time.samples + 1))
        samples := s.time.samples + 1 }
    supply := s.supply.movedTo (s.supply.levelAfter mv) }

/-- A sample is handed on where it moves the level (R125, R126). -/
theorem exec_supplySample {s : State} (h : s.ready) (mv : Nat) :
    exec (.supplySample mv) s =
      .next (if (s.sampled mv).supply.level = s.supply.level then s.sampled mv else s.levelChanged (s.sampled mv)) := by
  refine (takeInside_ready h fun x => x.takeSample mv).trans (congrArg _ ?_)
  have hsampled : ((s.reach (sampleMicros * (s.time.samples + 1))).setTime
      { (s.reach (sampleMicros * (s.time.samples + 1))).time with samples := s.time.samples + 1 }).setSupply
        (s.supply.sample mv) = s.sampled mv := by
    rw [s.supply.sample_eq mv]
    rfl
  rw [State.takeSample, hsampled]

/-! ### The lamp test at a new level -/

/-- What a change to a level does to the lamp test: CRITICAL ends it (R126). -/
def State.lampAtLevel (s : State) (level : Level) : State := if level = .critical then s.endLamp else s

theorem State.lampAtLevel_frame (s : State) (level : Level) :
    (s.lampAtLevel level).held = s.held ∧ (s.lampAtLevel level).time = s.time ∧
    (s.lampAtLevel level).ports = s.ports ∧ (s.lampAtLevel level).table = s.table ∧
    (s.lampAtLevel level).map = s.map ∧ (s.lampAtLevel level).keys = s.keys ∧ (s.lampAtLevel level).horn = s.horn ∧
    (s.lampAtLevel level).supply = s.supply ∧ (s.lampAtLevel level).pending = s.pending := by
  unfold State.lampAtLevel
  split <;> simp

theorem State.lampAtLevel_roles (s : State) (level : Level) : s.sameRoles (s.lampAtLevel level) := by
  unfold State.lampAtLevel
  split
  · exact s.endLamp_roles
  · exact ⟨rfl, rfl, rfl, rfl⟩

/-- LAMP ended reaches the primary in session where a running test is ended (R98, R126). -/
theorem State.lampAtLevel_session (s : State) (level : Level) (m : Link) :
    (s.lampAtLevel level).session m =
      if (s.panel.lamp.running = true ∧ level = .critical) ∧ s.sessions.primary = some m ∧ s.inSession m = true then
        { s.session m with notices := { (s.session m).notices with lamp := some .ended } }
      else s.session m := by
  unfold State.lampAtLevel
  split
  · next hcritical => simp only [State.endLamp_session, hcritical, and_true]
  · next hother => rw [if_neg fun c => hother c.1.2]

theorem State.lampAtLevel_inSession (s : State) (level : Level) (m : Link) :
    (s.lampAtLevel level).inSession m = s.inSession m := by
  apply State.inSession_of_session
  rw [State.lampAtLevel_session]
  split <;> rfl

theorem State.lampAtLevel_panel (s : State) (level : Level) :
    (s.lampAtLevel level).panel =
      if s.panel.lamp.running = true ∧ level = .critical then { s.panel with lamp := .idle } else s.panel := by
  unfold State.lampAtLevel
  split
  · next hcritical =>
    rw [State.endLamp_spec]
    simp only [hcritical, and_true]
    split <;> rfl
  · next hother => rw [if_neg fun c => hother c.2]

/-! ### A change handed on -/

theorem State.notifyBoth_roles (s : State) (f : NoticeSet → NoticeSet) : s.sameRoles (s.notifyBoth f) :=
  State.sameRoles_trans (s.notify_roles .a f) ((s.notify .a f).notify_roles .b f)

/-- The three stages of a change: groups and horn, lamp test, notices (R125, R126). -/
theorem State.levelChanged_eq (before s : State) :
    before.levelChanged s =
      ((before.surfaceAll s).redecideHorn.lampAtLevel s.supply.level).notifyBoth (.putSupply s.supply.level) :=
  rfl

section
variable (before s : State)

/-- The re-decisions leave the links and the panel to the stages behind them. -/
theorem State.decided_frame :
    (before.surfaceAll s).redecideHorn.sessions = s.sessions ∧ (before.surfaceAll s).redecideHorn.panel = s.panel := by
  simp

/-- The blocks that a change hands nothing on to. -/
theorem State.levelChanged_frame :
    (before.levelChanged s).held = s.held ∧ (before.levelChanged s).time = s.time ∧
    (before.levelChanged s).ports = s.ports ∧ (before.levelChanged s).map = s.map ∧
    (before.levelChanged s).keys = s.keys ∧ (before.levelChanged s).supply = s.supply ∧
    (before.levelChanged s).pending = s.pending := by
  simp [State.levelChanged_eq, State.lampAtLevel_frame]

/-- The table of a change is that of the re-decision. -/
theorem State.levelChanged_table : (before.levelChanged s).table = (before.surfaceAll s).table := by
  simp [State.levelChanged_eq, State.lampAtLevel_frame]

theorem State.levelChanged_view : SameView (before.surfaceAll s) (before.levelChanged s) := by
  obtain ⟨-, -, -, hmap, -, hsupply, -⟩ := before.levelChanged_frame s
  obtain ⟨-, -, -, -, hmap', -, -, -, hsupply', -⟩ := s.surfaceAll_frame before
  exact .of_fields (before.levelChanged_table s) (by rw [hmap, hmap']) (hsupply.trans hsupply'.symm)

theorem State.levelChanged_slot (h : s.table = before.table) (j : SlotIx) :
    (before.levelChanged s).slot j = before.redecidedSlot (before.levelChanged s) j := by
  calc (before.levelChanged s).slot j
    _ = (before.surfaceAll s).slot j := State.slot_congr (by rw [before.levelChanged_table s]) j
    _ = before.redecidedSlot (before.surfaceAll s) j := State.surfaceAll_redecided h j
    _ = before.redecidedSlot (before.levelChanged s) j :=
      (State.redecidedSlot_congr (.refl before) (fun _ => rfl) (before.levelChanged_view s) j).symm

/-- SUPPLY reaches every link in session, and LAMP ended the primary where a running test is ended (R126). -/
theorem State.levelChanged_session (m : Link) :
    (before.levelChanged s).session m =
      if s.inSession m = true then
        { s.session m with
          notices :=
            { (s.session m).notices with
              supply := some s.supply.level
              lamp := if (s.panel.lamp.running = true ∧ s.supply.level = .critical) ∧ s.sessions.primary = some m
                then some .ended else (s.session m).notices.lamp } }
      else s.session m := by
  obtain ⟨hsessions, hpanel⟩ := before.decided_frame s
  rw [State.levelChanged_eq, State.notifyBoth_session, State.lampAtLevel_inSession, State.lampAtLevel_session,
    hpanel, hsessions, State.session_congr hsessions, State.inSession_congr hsessions]
  by_cases hin : s.inSession m = true
  · simp only [hin, if_true, and_true]
    split <;> rfl
  · rw [if_neg hin, if_neg hin, if_neg fun c => hin c.2.2]

theorem State.levelChanged_roles : s.sameRoles (before.levelChanged s) := by
  have hsessions := (before.decided_frame s).1
  have hlamp := (before.surfaceAll s).redecideHorn.lampAtLevel_roles s.supply.level
  simp only [State.sameRoles, hsessions] at hlamp
  exact State.sameRoles_trans hlamp (State.notifyBoth_roles ..)

theorem State.levelChanged_panel :
    (before.levelChanged s).panel =
      if s.panel.lamp.running = true ∧ s.supply.level = .critical then { s.panel with lamp := .idle } else s.panel := by
  have hpanel := (before.decided_frame s).2
  rw [State.levelChanged_eq, ((State.lampAtLevel ..).notifyBoth_frame _).2.2.2.2.2.1, State.lampAtLevel_panel, hpanel]

/-- The horn is re-decided once; what follows changes nothing that it reads (R116). -/
theorem State.levelChanged_horn :
    (before.levelChanged s).horn = s.hornAfter (before.levelChanged s) ∧
      (before.levelChanged s).horn.enable = s.horn.enable := by
  have hbefore : (before.surfaceAll s).horn = s.horn := by simp
  have hhorn : (before.levelChanged s).horn = (before.surfaceAll s).redecideHorn.horn := by
    simp [State.levelChanged_eq, State.lampAtLevel_frame]
  have htime : (before.levelChanged s).time = (before.surfaceAll s).redecideHorn.time := by
    simp [State.levelChanged_eq, State.lampAtLevel_frame]
  have hview : SameView (before.surfaceAll s).redecideHorn (before.levelChanged s) :=
    (before.surfaceAll s).redecideHorn_view.symm.trans (before.levelChanged_view s)
  have hdemand : (before.levelChanged s).decideHorn = (before.surfaceAll s).redecideHorn.decideHorn :=
    hview.decideHorn (State.record_congr (by simp [State.levelChanged_table])) (by rw [hhorn])
  constructor
  · calc (before.levelChanged s).horn
      _ = (before.surfaceAll s).redecideHorn.horn := hhorn
      _ = (before.surfaceAll s).hornAfter (before.surfaceAll s).redecideHorn := State.redecideHorn_hornAfter _
      _ = s.hornAfter (before.levelChanged s) :=
        (State.hornAfter_congr hbefore.symm hdemand hhorn htime).symm
  · rw [hhorn, (before.surfaceAll s).redecideHorn_spec.2.1, hbefore]

end

/-- Settles O46: the sample itself by `State.sampled`, and what a change hands on by the lemmas of
`State.levelChanged`. -/
theorem supplySampleMovesLevel : Obligations.SupplySampleMovesLevel := by
  intro s mv h now
  have hexec := exec_supplySample h mv
  refine ⟨fun hstays => hexec.trans (congrArg _ (if_pos hstays)), fun hmoves => ?_⟩
  obtain ⟨held, time, ports, map, keys, supply, pending⟩ := s.levelChanged_frame (s.sampled mv)
  obtain ⟨hhorn, henable⟩ := s.levelChanged_horn (s.sampled mv)
  have htable := s.levelChanged_table (s.sampled mv)
  have hpanel := s.levelChanged_panel (s.sampled mv)
  exact ⟨_, hexec.trans (congrArg _ (if_neg hmoves)), supply, time, s.levelChanged_slot (s.sampled mv) rfl,
    (congrArg Table.arrival htable).trans (State.surfaceAll_spec s (s.sampled mv)).1.arrival,
    (congrArg Table.low htable).trans (s.surfaceAll_low (s.sampled mv)),
    s.levelChanged_session (s.sampled mv), s.levelChanged_roles (s.sampled mv),
    fun hends => hpanel.trans (if_pos hends), fun hruns => hpanel.trans (if_neg hruns), hhorn, henable, ports, held,
    map, keys, pending⟩

end Sys2Proof.Machine

/-! ## Steps and link transactions (R131–R144)

Every transaction opens with the status byte and the flags it clears; what it does to the port and the Session Unit is then
one operation on the port so opened. -/

namespace Sys2Proof.Machine

/-- Settles O1: a step takes the front command off the queue. -/
theorem stepRunsFrontCommand : Obligations.StepRunsFrontCommand := by
  refine ⟨fun c s => rfl, fun s hempty => ?_⟩
  unfold step
  rw [hempty]

/-! ### Transactions -/

/-- The port once a transaction has shown the status byte and shifted out filler for `bytes` (R131–R133). -/
def State.openedPort (s : State) (l : Link) (bytes : List Byte) : Port :=
  { s.port l with
    overrun := false
    frameError := false
    dataOut := s.statusByte l :: List.replicate bytes.length 0x00#8 }

theorem State.openTransaction_eq (s : State) (l : Link) (bytes : List Byte) :
    s.openTransaction l bytes = s.setPort l (s.openedPort l bytes) := by
  rw [State.openTransaction, List.map_const']
  rfl

@[simp] theorem State.setPort_setPort (s : State) (l : Link) (p q : Port) :
    (s.setPort l p).setPort l q = s.setPort l q := by
  simp [State.setPort, State.setPorts]

/-- A transaction of each kind, on the port it opens (R131, R183). -/
theorem State.transact_peek (s : State) (l : Link) (bytes : List Byte) :
    s.transact l 0x00#8 bytes = s.setPort l (s.openedPort l bytes) :=
  s.openTransaction_eq l bytes

theorem State.transact_send (s : State) (l : Link) (bytes : List Byte) :
    s.transact l 0x01#8 bytes = (s.setPort l (s.openedPort l bytes)).sendFrame l bytes :=
  congrArg (State.sendFrame · l bytes) (s.openTransaction_eq l bytes)

theorem State.transact_fetch (s : State) (l : Link) (bytes : List Byte) :
    s.transact l 0x02#8 bytes = s.setPort l ((s.openedPort l bytes).fetch bytes) := by
  have hkind : s.transact l 0x02#8 bytes =
      (s.openTransaction l bytes).setPort l (((s.openTransaction l bytes).port l).fetch bytes) := rfl
  rw [hkind, State.openTransaction_eq, State.port_setPort_same, State.setPort_setPort]

theorem State.transact_linkReset (s : State) (l : Link) (bytes : List Byte) :
    s.transact l 0x0E#8 bytes = (s.setPort l (s.openedPort l bytes).linkReset).resetSession l := by
  have hkind : s.transact l 0x0E#8 bytes =
      ((s.openTransaction l bytes).setPort l ((s.openTransaction l bytes).port l).linkReset).resetSession l := rfl
  rw [hkind, State.openTransaction_eq, State.port_setPort_same, State.setPort_setPort]

theorem State.transact_unknown (s : State) (l : Link) {k : Byte} (hpeek : k ≠ 0x00#8) (hsend : k ≠ 0x01#8)
    (hfetch : k ≠ 0x02#8) (hreset : k ≠ 0x0E#8) (bytes : List Byte) :
    s.transact l k bytes = s.setPort l { s.openedPort l bytes with frameError := true } := by
  have hkind : kindOf k = .unknown := by simp [kindOf, hpeek, hsend, hfetch, hreset]
  simp only [State.transact, hkind, State.flagFrameError, State.openTransaction_eq, State.port_setPort_same,
    State.setPort_setPort]

/-- Settles O9: a PEEK opens its port and no more, and an unknown kind flags the error behind it. -/
theorem peekShowsStatus : Obligations.PeekShowsStatus := by
  refine ⟨fun dt s => rfl, fun dt l bytes s h => ?_⟩
  have hpeek (k : Byte) : exec (.peek dt l (some k) bytes) s = .next ((s.after dt).transact l k bytes) :=
    takeOutside_ready h dt fun x => x.transact l k bytes
  refine ⟨takeOutside_ready h dt id, ?_, fun k h0 h1 h2 hE => ?_⟩
  · exact (hpeek _).trans (congrArg _ (State.transact_peek ..))
  · exact (hpeek k).trans (congrArg _ (State.transact_unknown _ l h0 h1 h2 hE bytes))

/-! ### SEND (R135–R137, R143) -/

theorem ReqSlot.isAnswered_iff {x : ReqSlot} : x.isAnswered = true ↔ ∃ a, x = .answered a := by
  cases x <;> simp [ReqSlot.isAnswered]

theorem ReqSlot.isExecuting_iff {x : ReqSlot} : x.isExecuting = true ↔ ∃ r, x = .executing r := by
  cases x <;> simp [ReqSlot.isExecuting]

/-- A taken SEND restarts the keepalive of a link in session (R143). -/
theorem State.restartKeepalive_eq (s : State) (l : Link) :
    s.restartKeepalive l = s.setSession l (s.restartedSession l) := by
  unfold State.restartKeepalive State.restartedSession
  split
  · rfl
  · exact (State.setSession_session s l).symm

theorem Port.replayFor_repeated {p : Port} {r : Request} {a : Retained} (hkept : p.retained = some a)
    (hseq : a.response.seq = r.seq) (hcode : a.code = r.code) : p.replayFor r = some a.response := by
  simp only [Port.replayFor, hkept, hseq, hcode, and_self, if_true]

theorem Port.replayFor_new {p : Port} {r : Request}
    (hnew : ∀ a, p.retained = some a → ¬(a.response.seq = r.seq ∧ a.code = r.code)) : p.replayFor r = none := by
  unfold Port.replayFor
  split
  · rfl
  · next a ha => rw [if_neg (hnew a ha)]

section
variable (s : State) (l : Link) (p : Port) {bytes : List Byte}

theorem State.sendFrame_malformed (hframe : checkFrame bytes = none) :
    (s.setPort l p).sendFrame l bytes = s.setPort l { p with frameError := true } := by
  simp only [State.sendFrame, hframe, State.flagFrameError, State.port_setPort_same, State.setPort_setPort]

variable {r : Request} (hframe : checkFrame bytes = some r)
include hframe

theorem State.sendFrame_dropped (hslot : p.slot.isExecuting = true) :
    (s.setPort l p).sendFrame l bytes = s.setPort l { p with overrun := true } := by
  obtain ⟨q, hq⟩ := ReqSlot.isExecuting_iff.mp hslot
  simp only [State.sendFrame, hframe, State.port_setPort_same, hq, State.flagOverrun, State.setPort_setPort]

/-- A request taken into the slot is replayed, or executes (R136, R137). -/
theorem State.sendFrame_taken (hslot : p.slot.isExecuting = false) :
    (s.setPort l p).sendFrame l bytes =
      (s.setPort l { p with slot := ((p.replayFor r).map ReqSlot.answered).getD (.executing r) }).setSession l
        (s.restartedSession l) := by
  have htaken : (s.setPort l p).sendFrame l bytes = (s.setPort l p).takeIntoSlot l r := by
    simp only [State.sendFrame, hframe, State.port_setPort_same]
    cases hp : p.slot with
    | executing q => rw [hp] at hslot; cases hslot
    | empty => rfl
    | answered a => rfl
  have hfilled : (s.setPort l p).takeIntoSlot l r =
      ((s.setPort l p).setSession l (s.restartedSession l)).setSlotOf l
        (((p.replayFor r).map ReqSlot.answered).getD (.executing r)) := by
    simp only [State.takeIntoSlot, State.port_setPort_same, State.restartKeepalive_eq]
    cases p.replayFor r <;> rfl
  have hport : ((s.setPort l p).setSession l (s.restartedSession l)).port l = p := State.port_setPort_same ..
  rw [htaken, hfilled, State.setSlotOf, hport]
  exact State.setPort_setPort (s.setSession l (s.restartedSession l)) l p _

end

/-- Settles O10: the port opened, then `State.sendFrame` by the frame and the slot. -/
theorem sendTakesOneRequest : Obligations.SendTakesOneRequest := by
  intro dt l bytes s h now p links
  have hsend : exec (.send dt l bytes) s = .next ((now.setPort l p).sendFrame l bytes) :=
    (takeOutside_ready h dt fun x => x.transact l 0x01#8 bytes).trans (congrArg _ (State.transact_send ..))
  refine ⟨fun hframe => ?_, fun r hframe => ⟨fun hslot => ?_, fun hslot => ⟨fun a hkept hseq hcode => ?_, fun hnew => ?_⟩⟩⟩
  · rw [hsend, State.sendFrame_malformed now l p hframe]
    rfl
  · rw [hsend, State.sendFrame_dropped now l p hframe hslot]
    rfl
  · rw [hsend, State.sendFrame_taken now l p hframe hslot, Port.replayFor_repeated (p := p) hkept hseq hcode]
    rfl
  · rw [hsend, State.sendFrame_taken now l p hframe hslot, Port.replayFor_new (p := p) hnew]
    rfl

/-! ### FETCH (R141, R142) -/

/-- A frame is cut to the bytes shifted in, or filled up to them. -/
theorem shiftOut_eq (frame bytes : List Byte) :
    shiftOut frame bytes = (frame ++ List.replicate (bytes.length - frame.length) 0x00#8).take bytes.length := by
  simp [shiftOut, List.take_append]

theorem State.openedPort_fetch (s : State) (l : Link) (bytes : List Byte) :
    (s.openedPort l bytes).fetch bytes =
      { s.port l with
        slot := (s.port l).slot.afterFetch
        overrun := false
        frameError := false
        dataOut := s.statusByte l ::
          (responseFrame (s.port l).fetched ++
            List.replicate (bytes.length - (responseFrame (s.port l).fetched).length) 0x00#8).take bytes.length } := by
  rw [← shiftOut_eq]
  rfl

/-- Settles O11: the port that `State.openedPort_fetch` leaves, by the slot and the retained response. -/
theorem fetchShiftsResponse : Obligations.FetchShiftsResponse := by
  intro dt l bytes s h now fetched
  have hfetch : exec (.fetch dt l bytes) s =
      .next { now with ports := s.ports.set l (fetched (s.port l).slot.afterFetch (s.port l).fetched) } :=
    (takeOutside_ready h dt fun x => x.transact l 0x02#8 bytes).trans
      (congrArg _ ((State.transact_fetch ..).trans (congrArg (State.setPort _ l) (State.openedPort_fetch ..))))
  refine ⟨fun a hslot => ?_, fun r hslot => ?_, fun hslot => ⟨fun a hkept => ?_, fun hnone => ?_⟩⟩
  · rw [hfetch, Port.fetched, hslot]
    rfl
  · rw [hfetch, Port.fetched, hslot]
    rfl
  · rw [hfetch, Port.fetched, hslot, hkept]
    rfl
  · rw [hfetch, Port.fetched, hslot, hnone]
    rfl

end Sys2Proof.Machine

/-! ## The status byte, the notice kinds and ATTN (R132, R168, R171, R183, R185) -/

namespace Sys2Proof.Machine

theorem State.inSession_iff {s : State} {l : Link} :
    s.inSession l = true ↔ (s.session l).state = .standby ∨ (s.session l).state = .primary := by
  unfold State.inSession
  cases (s.session l).state <;> simp [SessionState.inSession]

/-! ### Bits -/

/-- One bit of a word, set where `b` holds. -/
theorem getLsbD_bit {w n : Nat} (hn : n < w) (b : Bool) (k : Nat) :
    (if b then 1#w <<< n else 0#w).getLsbD k = (decide (k = n) && b) := by
  cases b with
  | false => simp
  | true =>
    rw [if_pos rfl, BitVec.getLsbD_shiftLeft, BitVec.getLsbD_one, Bool.and_true, Bool.eq_iff_iff]
    simp only [Bool.and_eq_true, Bool.not_eq_true', decide_eq_true_eq, decide_eq_false_iff_not]
    omega

theorem kindBit_getLsbD {n : Nat} (hn : n < 16) (b : Bool) (k : Nat) :
    (kindBit n b).getLsbD k = (decide (k = n) && b) :=
  getLsbD_bit hn b k

theorem statusBit_getLsbD {n : Nat} (hn : n < 8) (b : Bool) (k : Nat) :
    (statusBit n b).getLsbD k = (decide (k = n) && b) :=
  getLsbD_bit hn b k

theorem word_ne_zero_iff {w : Nat} {x : BitVec w} : x ≠ 0#w ↔ ∃ k, x.getLsbD k = true := by
  constructor
  · intro hne
    by_contra hnone
    refine hne (BitVec.eq_of_getLsbD_eq fun k _ => ?_)
    rw [BitVec.getLsbD_zero]
    exact Bool.eq_false_iff.mpr fun hk => hnone ⟨k, hk⟩
  · rintro ⟨k, hk⟩ rfl
    simp at hk

/-- The code of a session state lies in bits 2 and 1 of the status byte (R183). -/
theorem SessionState.code_getLsbD_outside (st : SessionState) {k : Nat} (hk : k = 0 ∨ 3 ≤ k) :
    (st.code <<< 1).getLsbD k = false := by
  have hbelow : (st.code <<< 1).toNat < 2 ^ 3 ∧ (st.code <<< 1).getLsbD 0 = false := by cases st <;> decide
  rcases hk with rfl | hk
  · exact hbelow.2
  · exact Nat.testBit_lt_two_pow (hbelow.1.trans_le (Nat.pow_le_pow_right (by decide) hk))

theorem State.statusByte_getLsbD (s : State) (l : Link) (k : Nat) : (s.statusByte l).getLsbD k =
    (decide (k = 7) && (s.port l).slot.isAnswered || decide (k = 6) && (s.port l).slot.isExecuting ||
      decide (k = 5) && s.attn l || decide (k = 4) && (s.port l).overrun || decide (k = 3) && (s.port l).frameError ||
      ((s.session l).state.code <<< 1).getLsbD k || decide (k = 0) && decide (s.sessions.permit = some l)) := by
  simp (disch := decide) only [State.statusByte, BitVec.getLsbD_or, statusBit_getLsbD, beq_eq_decide]

/-- Bits 2 and 1 of the status byte (R183). -/
theorem State.statusByte_state (s : State) (l : Link) :
    (s.statusByte l).extractLsb' 1 2 = ((s.session l).state.code <<< 1).extractLsb' 1 2 := by
  refine BitVec.eq_of_getLsbD_eq fun k hk => ?_
  rw [BitVec.getLsbD_extractLsb', BitVec.getLsbD_extractLsb', State.statusByte_getLsbD]
  interval_cases k <;> simp

/-- A mask of kinds, bit by bit in the order of R185. -/
theorem NoticeSet.kinds_getLsbD (n : NoticeSet) (changes : Bool) (k : Nat) : (n.kinds changes).getLsbD k =
    ([changes, n.role.isSome, n.permit.isSome, n.peer.isSome, n.map.isSome, n.supply.isSome, n.orphans,
      n.key.ack || n.key.silence || n.key.reset || n.key.test, n.lamp.isSome, n.purge, n.adoption.isSome, n.restart,
      n.table][k]?).getD false := by
  simp (disch := decide) only [NoticeSet.kinds, BitVec.getLsbD_or, kindBit_getLsbD]
  by_cases hk : k < 13
  · interval_cases k <;> simp [KeySetHeld]
  · rw [List.getElem?_eq_none (by simp; omega)]
    simp only [Option.getD_none, Bool.or_eq_false_iff, Bool.and_eq_false_iff, decide_eq_false_iff_not]
    omega

/-- Settles O7: the status byte, the notice kinds and ATTN by their bits. -/
theorem statusByteShowsFields : Obligations.StatusByteShowsFields := by
  refine ⟨fun s => ⟨rfl, rfl, rfl, rfl, fun _ => ⟨rfl, rfl⟩, fun _ => ⟨rfl, rfl⟩, fun l => State.inSession_iff⟩, ⟨rfl, rfl⟩,
    fun x => ⟨ReqSlot.isAnswered_iff, ReqSlot.isExecuting_iff⟩, fun s l => ?_, NoticeSet.kinds_getLsbD, fun s l => ?_⟩
  · have hbit := s.statusByte_getLsbD l
    have hcode {k : Nat} := (s.session l).state.code_getLsbD_outside (k := k)
    refine ⟨?_, ?_, ?_, ?_, ?_, ?_, ?_⟩
    case refine_6 =>
      rw [State.statusByte_state]
      cases (s.session l).state <;> rfl
    all_goals rw [hbit, hcode (by decide)]; simp
  · have hheld : (s.session l).heldKinds = (s.session l).notices.kinds (decide ((s.session l).changed ≠ [])) := by
      unfold LinkSession.heldKinds
      cases (s.session l).changed <;> rfl
    rw [State.attn, Bool.and_eq_true, bne_iff_ne, word_ne_zero_iff, hheld]
    simp only [BitVec.getLsbD_and, Bool.and_eq_true]

end Sys2Proof.Machine

/-! ## Departures (R153–R157, R160, R166)

A departure deals with its link's records slot by slot. What becomes of each is decided by the state before the first of
them: a record freed hides no other, one that changes its owner shows what it showed, and records of one owner have
distinct keys, so none that is adopted stands in the way of another. -/

namespace Sys2Proof.Machine

/-! ### One record (R155, R156) -/

theorem State.adopts_iff {s : State} {l : Link} {r : Record} : s.adopts l r = true ↔
    r.policy = .adopt ∧ s.inSession l.other = true ∧
      ∀ j p, s.record j = some p → p.owner = some l.other → p.key ≠ r.key := by
  rw [State.adopts, Bool.and_eq_true, Bool.and_eq_true, beq_iff_eq, Option.isNone_iff_eq_none, Table.findKey_eq_none,
    and_assoc]
  rfl

/-- The record `r` in a slot at the departure of its owner `l`, where it is not freed (R156). -/
def State.passedOn (s : State) (l : Link) (i : SlotIx) (r : Record) : State :=
  if s.adopts l r then (s.setOwner i r (some l.other)).joinChanged l.other i else s.setOwner i r none

/-- A departure counts what it has done with records freed, kept and adopted. -/
def Tally.countFreed (t : Tally) : Tally := { t with freed := t.freed + 1 }

/-- A record adopted (R156). -/
def Tally.countAdopted (t : Tally) : Tally := { t with adopted := t.adopted + 1, adoptSeen := true }

/-- A record that becomes an orphan; `seen` tells that the other link was in session to adopt it, and could not (R156). -/
def Tally.countKept (t : Tally) (seen : Bool) : Tally :=
  { t with kept := t.kept + 1, adoptSeen := t.adoptSeen || seen, collision := t.collision || seen }

/-- No record of the departing link in the slot. -/
theorem departSlot_other {l : Link} {all : Bool} {acc : State × Tally} {i : SlotIx}
    (h : ∀ r, acc.1.record i = some r → r.owner ≠ some l) : departSlot l all acc i = acc := by
  unfold departSlot
  split
  · rfl
  · next r hr => rw [if_neg (h r hr)]

section
variable {l : Link} {all : Bool} {acc : State × Tally} {i : SlotIx} {r : Record} (hr : acc.1.record i = some r)
  (ho : r.owner = some l)
include hr ho

theorem departSlot_freed (h : all = true ∨ r.policy = .drop) :
    departSlot l all acc i = (acc.1.retireFree i, acc.2.countFreed) := by
  unfold departSlot
  simp only [hr, if_pos ho]
  rcases h with rfl | hdrop
  · rfl
  · rw [hdrop]
    cases all <;> rfl

/-- A record that a departure leaves is the other link's where that link adopts it, and an orphan otherwise. -/
theorem departSlot_passedOn (h : ¬(all = true ∨ r.policy = .drop)) :
    departSlot l all acc i = (acc.1.passedOn l i r,
      if acc.1.adopts l r then acc.2.countAdopted
      else acc.2.countKept (r.policy == .adopt && acc.1.inSession l.other)) := by
  obtain ⟨hall, hdrop⟩ := not_or.mp h
  unfold departSlot
  simp only [hr, if_pos ho, if_neg hall]
  cases hpolicy : r.policy with
  | drop => exact absurd hpolicy hdrop
  | keep =>
    have hkeep : (OrphanPolicy.keep == OrphanPolicy.adopt) = false := rfl
    simp [State.passedOn, State.adopts, hpolicy, hkeep, Tally.countKept]
  | adopt =>
    cases hin : acc.1.inSession l.other with
    | false => simp [State.passedOn, State.adopts, State.adopt, hin, Tally.countKept]
    | true =>
      cases hkey : acc.1.table.findKey l.other r.key <;>
        simp [State.passedOn, State.adopts, State.adopt, hpolicy, hin, hkey, Tally.countKept, Tally.countAdopted]

end

/-- Only the record's owner changes, and the slot joins the changed set of a link that adopts it. -/
theorem State.passedOn_spec {s : State} {l : Link} {i : SlotIx} {r : Record} (hr : s.record i = some r) :
    (∀ j, (s.passedOn l i r).slot j = if j = i then
        { s.slot i with content := .live { r with owner := if s.adopts l r then some l.other else none } }
      else s.slot j) ∧
    SameView s (s.passedOn l i r) ∧ (s.passedOn l i r).table.low = s.table.low ∧
    (∀ m, (s.passedOn l i r).session m = { s.session m with
      changed :=
        if m = l.other ∧ s.adopts l r = true then joinSlot i (s.session m).changed else (s.session m).changed }) := by
  have hshown (o : Option Link) (j : SlotIx) :
      ((s.setOwner i r o).record j).map Record.shown = (s.record j).map Record.shown := by
    rw [State.setOwner, State.record_setRecord]
    split
    · next e => rw [e, hr]; rfl
    · rfl
  have hview (o : Option Link) : SameView s (s.setOwner i r o) :=
    ⟨by simp [State.setOwner, State.setRecord], hshown o, by simp, by simp, by simp⟩
  unfold State.passedOn
  split
  · next h =>
    refine ⟨fun j => ?_, (hview (some l.other)).trans (.of_fields (by simp) (by simp) (by simp)), ?_, fun m => ?_⟩
    · rw [State.slot_congr (s := s.setOwner i r (some l.other)) (by simp)]
      exact s.slot_setRecord i j _
    · simp [State.setOwner, State.setRecord]
    · rw [State.joinChanged_session, State.session_congr (s := s) (by simp)]
      by_cases e : m = l.other <;> simp [e, h]
  · next h =>
    refine ⟨fun j => s.slot_setRecord i j _, hview _, by simp [State.setOwner, State.setRecord], fun m => ?_⟩
    rw [State.session_congr (s := s) (by simp), if_neg fun c => h c.2]

/-! ### What becomes of each slot -/

section
variable {s : State} {l : Link} {all : Bool} {i : SlotIx} {p : Record} (hp : s.record i = some p)
include hp

theorem State.departedSlot_other (ho : p.owner ≠ some l) : s.departedSlot l all i = s.slot i := by
  simp only [State.departedSlot, State.record_eq_some.mp hp, if_pos ho]

theorem State.departedSlot_freed (ho : p.owner = some l) (h : all = true ∨ p.policy = .drop) :
    s.departedSlot l all i = (s.slot i).freed := by
  simp only [State.departedSlot, State.record_eq_some.mp hp, ho, ne_eq, not_true_eq_false, if_false, if_pos h]

theorem State.departedSlot_passedOn (ho : p.owner = some l) (h : ¬(all = true ∨ p.policy = .drop)) :
    s.departedSlot l all i =
      { s.slot i with content := .live { p with owner := if s.adopts l p then some l.other else none } } := by
  simp only [State.departedSlot, State.record_eq_some.mp hp, ho, ne_eq, not_true_eq_false, if_false, if_neg h]

/-- The departure frees the records of its link that are withdrawn or dropped, and no other (R153, R155). -/
theorem State.departureFrees_iff :
    s.departureFrees l all i = true ↔ p.owner = some l ∧ (all = true ∨ p.policy = .drop) := by
  have hx := State.record_eq_some.mp hp
  have hlive : (s.slot i).isLive = true := Slot.isLive_iff.mpr ⟨p, hx⟩
  rw [State.departureFrees, hlive, Bool.true_and, Slot.isFree_iff]
  by_cases ho : p.owner = some l
  · by_cases h : all = true ∨ p.policy = .drop
    · rw [State.departedSlot_freed hp ho h]
      exact iff_of_true rfl ⟨ho, h⟩
    · rw [State.departedSlot_passedOn hp ho h]
      exact iff_of_false nofun fun c => h c.2
  · rw [State.departedSlot_other hp ho, hx]
    exact iff_of_false nofun fun c => ho c.1

end

/-- No record stands where a departure frees none. -/
theorem State.departureFrees_none {s : State} {l : Link} {all : Bool} {i : SlotIx} (h : s.record i = none) :
    s.departureFrees l all i = false := by
  have hlive : (s.slot i).isLive = false := by
    rw [← Bool.not_eq_true, Slot.isLive_iff]
    rintro ⟨r, hr⟩
    rw [State.record_eq_some.mpr hr] at h
    cases h
  rw [State.departureFrees, hlive, Bool.false_and]

/-- A slot once the records in `dealt` have been dealt with, tombstones and surfacing aside (R154 stage 2). -/
def State.dealtSlot (s : State) (l : Link) (all : Bool) (dealt : List SlotIx) (j : SlotIx) : Slot :=
  if j ∈ dealt ∧ (s.slot j).isLive = true then s.departedSlot l all j else s.slot j

section
variable {s : State} {l : Link} {all : Bool} {dealt : List SlotIx} {i j : SlotIx}

theorem State.dealtSlot_undealt (hj : j ∉ dealt) : s.dealtSlot l all dealt j = s.slot j :=
  if_neg fun h => hj h.1

theorem State.dealtSlot_append_self {p : Record} (hp : s.record i = some p) :
    s.dealtSlot l all (dealt ++ [i]) i = s.departedSlot l all i :=
  if_pos ⟨by simp, Slot.isLive_iff.mpr ⟨p, State.record_eq_some.mp hp⟩⟩

theorem State.dealtSlot_append_other (hj : j ≠ i) :
    s.dealtSlot l all (dealt ++ [i]) j = s.dealtSlot l all dealt j := by
  simp [State.dealtSlot, hj]

/-- A record that is left is the one that was, but for its owner; and its owner too, unless it was the departing link's and
has been dealt with. -/
theorem State.dealtSlot_live {r : Record} (hr : (s.dealtSlot l all dealt j).content = .live r) :
    j ∉ dealt.filter (s.departureFrees l all) ∧ ∃ q, s.record j = some q ∧ r = { q with owner := r.owner } ∧
      (r.owner = q.owner ∨ q.owner = some l ∧ j ∈ dealt) := by
  unfold State.dealtSlot at hr
  split at hr
  · next hj =>
    obtain ⟨q, hq⟩ := Slot.isLive_iff.mp hj.2
    have hq := State.record_eq_some.mpr hq
    rw [List.mem_filter, State.departureFrees_iff hq]
    by_cases ho : q.owner = some l
    · by_cases h : all = true ∨ q.policy = .drop
      · rw [State.departedSlot_freed hq ho h] at hr
        cases hr
      · rw [State.departedSlot_passedOn hq ho h] at hr
        cases hr
        exact ⟨fun c => h c.2.2, q, hq, rfl, .inr ⟨ho, hj.1⟩⟩
    · rw [State.departedSlot_other hq ho, State.record_eq_some.mp hq] at hr
      obtain rfl : q = r := Content.live.inj hr
      exact ⟨fun c => ho c.2.1, q, hq, rfl, .inl rfl⟩
  · next hj =>
    exact ⟨fun c => hj ⟨List.mem_of_mem_filter c, Slot.isLive_iff.mpr ⟨r, hr⟩⟩, r, State.record_eq_some.mpr hr, rfl,
      .inl rfl⟩

end

/-! ### The records of a departing link in turn (R154 stage 2) -/

/-- From `s` to `u` the records of the departing link `l` in the slots `dealt` have been dealt with. Other records that were
visible are so still. -/
structure Departing (s u : State) (l : Link) (all : Bool) (dealt : List SlotIx) : Prop where
  slots : ∀ j, s.surfacedInTurn u (dealt.filter (s.departureFrees l all)) j (s.dealtSlot l all dealt j)
  stays : ∀ g j, j ∉ dealt.filter (s.departureFrees l all) → s.visibleSlot g = some j → u.visibleSlot g = some j
  arrival : u.table.arrival = s.table.arrival.filter (· ∉ dealt.filter (s.departureFrees l all))
  freeing : s.table.freeCount ≤ u.table.freeCount
  low : u.table.low = lowAfterFreeing s u
  sessions : ∀ m, u.session m = { s.session m with changed := (u.session m).changed }
  changed : ∀ i, i ∈ (u.session l.other).changed ↔
    i ∈ (s.session l.other).changed ∨ (all = false ∧ i ∈ dealt ∧ i ∈ s.ownedSlots l (s.adopts l))

theorem State.mem_ownedSlots {s : State} {l : Link} {f : Record → Bool} {i : SlotIx} :
    i ∈ s.ownedSlots l f ↔ ∃ r, s.record i = some r ∧ r.owner = some l ∧ f r = true := by
  simp [State.ownedSlots, allSlots, Option.any_eq_true]

/-- A new owner bears on nothing that surfacing reads or writes. -/
theorem State.surfacedInTurn_owned {s u t : State} {touched : List SlotIx} {j : SlotIx} {x : Slot} {r r' q : Record}
    {o : Option Link} (h : s.surfacedInTurn u touched j x) (hr : x.content = .live r) (hq : s.record j = some q)
    (hu : (u.slot j).content = .live r') (ht : t.slot j = { u.slot j with content := .live { r' with owner := o } })
    (hv : ∀ g, t.visibleSlot g = u.visibleSlot g) :
    s.surfacedInTurn t touched j { x with content := .live { r with owner := o } } := by
  rw [State.surfacedInTurn_live hr hq] at h
  rw [State.surfacedInTurn_live rfl hq]
  obtain ⟨hform, hcleared, hseen⟩ := h
  have hstands : u.slot j = x → t.slot j = { x with content := .live { r with owner := o } } := fun e => by
    rw [e, hr] at hu
    cases hu
    rw [ht, e]
  have hclears : u.slot j = { x with content := .live { r with silenced := false } } →
      t.slot j = { x with content := .live { r with owner := o, silenced := false } } := fun e => by
    rw [e] at hu
    cases hu
    rw [ht, e]
  exact ⟨hform.imp hstands hclears, fun hne => hcleared (mt hstands hne),
    fun hvisible hhidden hunack => hclears (hseen ((hv _).symm.trans hvisible) hhidden hunack)⟩

/-- Nothing has been dealt with, and nothing that a departure reads of the table and the sessions has changed. -/
theorem Departing.start {s u : State} (l : Link) (all : Bool) (htable : u.table = s.table)
    (hlinks : u.sessions.links = s.sessions.links) (hmap : u.map = s.map) (hsupply : u.supply = s.supply) :
    Departing s u l all [] where
  slots j := by
    have hslot : u.slot j = s.slot j := State.slot_congr (by rw [htable]) j
    have hview : SameView s u := .of_fields htable (congrArg _ hmap) hsupply
    rw [State.dealtSlot_undealt List.not_mem_nil]
    cases hx : (s.slot j).content with
    | live r =>
      rw [State.surfacedInTurn_live hx (State.record_eq_some.mpr hx)]
      exact ⟨.inl hslot, fun h => absurd hslot h, fun hv hn => absurd (hview.visibleSlot _ ▸ hv) hn⟩
    | free => exact (State.surfacedInTurn_dead (by simp [hx])).mpr hslot
    | tombstone e => exact (State.surfacedInTurn_dead (by simp [hx])).mpr hslot
  stays g j _ hv := (SameView.visibleSlot (.of_fields htable (congrArg _ hmap) hsupply) g).trans hv
  arrival := by simp [htable]
  freeing := by rw [htable]
  low := by rw [lowAfterFreeing_of_count (by rw [htable]), htable]
  sessions m := by simp [State.session, hlinks]
  changed i := by simp [State.session, hlinks]

section
variable {s u : State} {l : Link} {all : Bool} {dealt : List SlotIx} {i : SlotIx} (h : Departing s u l all dealt)
  (hi : i ∉ dealt)
include h hi

/-- A slot that has not been dealt with stands, but for its silenced flag. -/
theorem Departing.undealt : (s.slot i).sameButSurfaced (u.slot i) := by
  have hsame := State.surfacedInTurn_same (h.slots i)
  rwa [State.dealtSlot_undealt hi] at hsame

omit hi in
theorem Departing.inSession (m : Link) : u.inSession m = s.inSession m :=
  State.inSession_of_session (by rw [h.sessions m])

/-- The other link holds the key of a record still to be dealt with if it held it before: what it has adopted since has
other keys (R4, R156). -/
theorem Departing.adopts (hs : OwnershipSound s) {p : Record} (hp : s.record i = some p) (ho : p.owner = some l) (b : Bool) :
    u.adopts l { p with silenced := b } = s.adopts l p := by
  rw [Bool.eq_iff_iff, State.adopts_iff, State.adopts_iff, h.inSession]
  refine and_congr_right fun _ => and_congr_right fun _ => ⟨fun hkey j q hq hqo => ?_, fun hkey j q hq hqo => ?_⟩
  · have hother : q.owner ≠ some l := fun c => l.ne_other (Option.some.inj (c.symm.trans hqo))
    have hstands : s.dealtSlot l all dealt j = s.slot j := by
      unfold State.dealtSlot
      split
      · exact State.departedSlot_other hq hother
      · rfl
    have hsame := State.surfacedInTurn_same (h.slots j)
    rw [hstands] at hsame
    obtain ⟨b, hu⟩ := hsame.record hq
    exact hkey j { q with silenced := b } hu hqo
  · obtain ⟨r, hr, hro, hrk⟩ : ∃ r, (s.dealtSlot l all dealt j).content = .live r ∧ r.owner = q.owner ∧ r.key = q.key := by
      rcases State.surfacedInTurn_same (h.slots j) with e | ⟨r, hr, e⟩
      · exact ⟨q, e ▸ State.record_eq_some.mp hq, rfl, rfl⟩
      · have hx := State.record_eq_some.mp hq
        rw [e] at hx
        cases hx
        exact ⟨r, hr, rfl, rfl⟩
    obtain ⟨-, x, hx, e, howner⟩ := State.dealtSlot_live hr
    have hxk : x.key = q.key := by rw [← hrk, e]
    rw [← hxk]
    rcases howner with hsame | ⟨hxo, hj⟩
    · exact hkey j x hx (hsame.symm.trans (hro.trans hqo))
    · exact fun c => hi (hs.keys i j p x l hp hx ho hxo c.symm ▸ hj)

/-- The slot holds no record of the departing link: nothing is done. -/
theorem Departing.next_other (hother : ∀ p, s.record i = some p → p.owner ≠ some l) :
    Departing s u l all (dealt ++ [i]) := by
  have hslot (j : SlotIx) : s.dealtSlot l all (dealt ++ [i]) j = s.dealtSlot l all dealt j := by
    by_cases hj : j = i
    · subst hj
      rw [State.dealtSlot_undealt hi]
      cases hp : s.record j with
      | some p => rw [State.dealtSlot_append_self hp, State.departedSlot_other hp (hother p hp)]
      | none =>
        refine if_neg fun c => ?_
        obtain ⟨r, hr⟩ := Slot.isLive_iff.mp c.2
        rw [State.record_eq_some.mpr hr] at hp
        cases hp
    · exact State.dealtSlot_append_other hj
  have hfrees : s.departureFrees l all i = false := by
    cases hp : s.record i with
    | some p => exact Bool.eq_false_iff.mpr fun c => hother p hp ((State.departureFrees_iff hp).mp c).1
    | none => exact State.departureFrees_none hp
  have hfreed : (dealt ++ [i]).filter (s.departureFrees l all) = dealt.filter (s.departureFrees l all) := by
    simp [List.filter_append, hfrees]
  refine ⟨?_, ?_, ?_, h.freeing, h.low, h.sessions, fun j => ?_⟩
  · simpa only [hfreed, hslot] using h.slots
  · simpa only [hfreed] using h.stays
  · simpa only [hfreed] using h.arrival
  · rw [h.changed j]
    refine or_congr_right (and_congr_right fun _ => and_congr_left fun hj => ?_)
    obtain ⟨p, hp, ho, -⟩ := State.mem_ownedSlots.mp hj
    have hne : j ≠ i := fun e => hother p (e ▸ hp) ho
    simp [hne]

variable {p : Record} (hp : s.record i = some p) (ho : p.owner = some l)
include hp ho

/-- One more record is freed: it was in no changed set of the other link. -/
theorem Departing.next_freed (hs : OwnershipSound s) (hfree : all = true ∨ p.policy = .drop) :
    Departing s (u.retireFree i) l all (dealt ++ [i]) := by
  have hsame := h.undealt hi
  obtain ⟨b, hu⟩ := hsame.record hp
  obtain ⟨hslot, harrival, hlow, hsession, -⟩ := State.retireFree_spec hu
  have hrecedes := State.retireFree_recedes hu
  have hfreeing : u.table.freeCount ≤ (u.retireFree i).table.freeCount := by
    refine Table.freeCount_mono fun j hj => ?_
    change ((u.retireFree i).slot j).isFree = true
    rw [hslot j, (surfacedSlot_kind ..).2.1]
    split
    · rfl
    · exact hj
  have hfreed : (dealt ++ [i]).filter (s.departureFrees l all) = dealt.filter (s.departureFrees l all) ++ [i] := by
    simp [List.filter_append, (State.departureFrees_iff hp).mpr ⟨ho, hfree⟩]
  refine ⟨fun j => ?_, fun g j hj hv => ?_, ?_, h.freeing.trans hfreeing, ?_, fun m => ?_, fun j => ?_⟩
  · rw [hfreed]
    by_cases hj : j = i
    · subst hj
      have hgen : (u.slot j).gen = (s.slot j).gen := by
        rcases hsame with e | ⟨r, -, e⟩ <;> rw [e]
      rw [State.dealtSlot_append_self hp, State.departedSlot_freed hp ho hfree,
        State.surfacedInTurn_dead (s.slot j).freed_content_ne_live, hslot j, if_pos rfl, surfacedSlot_freed, Slot.freed,
        hgen]
      rfl
    · have hother := hslot j
      rw [if_neg hj] at hother
      rw [State.dealtSlot_append_other hj]
      refine State.surfacedInTurn_next (h.slots j) hp hu rfl hrecedes hother fun r hr => ?_
      obtain ⟨hstays, q, hq, e, -⟩ := State.dealtSlot_live hr
      exact ⟨q, hq, by rw [e], fun hunack => ⟨by rw [e] at hunack; exact hunack, fun g => h.stays g j hstays⟩⟩
  · rw [hfreed, List.mem_append, List.mem_singleton, not_or] at hj
    exact hrecedes.stays hj.2 (h.stays g j hj.1 hv)
  · rw [harrival, h.arrival, List.filter_filter, hfreed]
    exact List.filter_congr fun j _ => by simp [and_comm]
  · rw [hlow, lowAfterFreeing_trans h.low h.freeing hfreeing]
  · rw [hsession m, h.sessions m]
  · have hunset : i ∉ (s.session l.other).changed := by
      intro c
      rcases hs.changed l.other i c with ⟨r, hr, hro⟩ | ⟨t, ht, -⟩
      · cases hr.symm.trans hp
        exact l.ne_other (Option.some.inj (ho.symm.trans hro))
      · rw [State.record_eq_some, ht] at hp
        cases hp
    have hunadopted : ¬(all = false ∧ s.adopts l p = true) := by
      rintro ⟨rfl, hadopts⟩
      rw [(State.adopts_iff.mp hadopts).1] at hfree
      rcases hfree with c | c <;> cases c
    rw [hsession l.other]
    simp only [List.mem_filter, h.changed j, List.mem_append, List.mem_singleton, decide_eq_true_eq]
    by_cases hj : j = i
    · subst hj
      refine iff_of_false (fun c => c.2 rfl) ?_
      rintro (c | ⟨hall, -, hmem⟩)
      · exact hunset c
      · obtain ⟨q, hq, -, hadopts⟩ := State.mem_ownedSlots.mp hmem
        cases hq.symm.trans hp
        exact hunadopted ⟨hall, hadopts⟩
    · simp [hj]

/-- One more record has become the other link's, or an orphan. -/
theorem Departing.next_passedOn (hs : OwnershipSound s) (hkeep : ¬(all = true ∨ p.policy = .drop)) {p' : Record}
    (hu : u.record i = some p') : Departing s (u.passedOn l i p') l all (dealt ++ [i]) := by
  have hsame := h.undealt hi
  obtain ⟨b, hp'⟩ := hsame.record hp
  cases hu.symm.trans hp'
  obtain ⟨hslot, hview, hlow, hsession⟩ := State.passedOn_spec (l := l) hu
  rw [h.adopts hi hs hp ho] at hslot hsession
  have hall : all = false := by simpa using fun c => hkeep (.inl c)
  have hfrees : s.departureFrees l all i = false :=
    Bool.eq_false_iff.mpr fun c => hkeep ((State.departureFrees_iff hp).mp c).2
  have hfreed : (dealt ++ [i]).filter (s.departureFrees l all) = dealt.filter (s.departureFrees l all) := by
    simp [List.filter_append, hfrees]
  have hcount : (u.passedOn l i { p with silenced := b }).table.freeCount = u.table.freeCount := by
    refine State.freeCount_of_kind fun j => ?_
    rw [hslot j]
    split
    · next e =>
      subst e
      simp [Slot.isFree, State.record_eq_some.mp hu]
    · rfl
  refine ⟨fun j => ?_, fun g j hj hv => ?_, ?_, hcount ▸ h.freeing, ?_, fun m => ?_, fun j => ?_⟩
  · rw [hfreed]
    by_cases hj : j = i
    · subst hj
      have hbefore := h.slots j
      rw [State.dealtSlot_undealt hi] at hbefore
      rw [State.dealtSlot_append_self hp, State.departedSlot_passedOn hp ho hkeep]
      exact State.surfacedInTurn_owned hbefore (State.record_eq_some.mp hp) hp (State.record_eq_some.mp hu)
        ((hslot j).trans (if_pos rfl)) hview.visibleSlot
    · rw [State.dealtSlot_append_other hj]
      refine State.surfacedInTurn_congr ?_ hview.visibleSlot (h.slots j)
      rw [hslot j, if_neg hj]
  · rw [hfreed] at hj
    exact (hview.visibleSlot g).trans (h.stays g j hj hv)
  · rw [hview.arrival, h.arrival, hfreed]
  · rw [hlow, h.low, lowAfterFreeing, lowAfterFreeing, hcount]
  · rw [hsession m, h.sessions m]
  · rw [hsession l.other]
    simp only [true_and, List.mem_append, List.mem_singleton]
    have hmem : i ∈ s.ownedSlots l (s.adopts l) ↔ s.adopts l p = true := by
      simp [State.mem_ownedSlots, hp, ho]
    by_cases hj : j = i
    · subst hj
      split
      · next c => simp [mem_joinSlot, hmem, c, hall]
      · next c => simp [h.changed j, hmem, c, hi]
    · split <;> simp [mem_joinSlot, hj, h.changed j]

end

/-! ### The counts (R153, R156) -/

/-- The slots among `dealt` of the LIVE records of `l` that satisfy `f`. -/
def State.ownedAmong (s : State) (l : Link) (dealt : List SlotIx) (f : Record → Bool) : List SlotIx :=
  dealt.filter fun i => (s.record i).any fun r => r.owner == some l && f r

/-- What a departure of `l` has counted once the records in `dealt` have been dealt with. -/
def State.tallied (s : State) (l : Link) (all : Bool) (dealt : List SlotIx) : Tally :=
  let seen := !all && s.inSession l.other
  { freed := (s.ownedAmong l dealt fun q => all || q.policy == .drop).length
    kept := (s.ownedAmong l dealt fun q => !all && q.policy != .drop && !s.adopts l q).length
    adopted := (s.ownedAmong l dealt fun q => !all && q.policy != .drop && s.adopts l q).length
    adoptSeen := seen && !(s.ownedAmong l dealt fun q => q.policy == .adopt).isEmpty
    collision := seen && !(s.ownedAmong l dealt fun q => q.policy == .adopt && !s.adopts l q).isEmpty }

section
variable {s : State} {l : Link} {all : Bool} {dealt : List SlotIx} {i : SlotIx}

theorem State.ownedAmong_other (h : ∀ p, s.record i = some p → p.owner ≠ some l) (f : Record → Bool) :
    s.ownedAmong l (dealt ++ [i]) f = s.ownedAmong l dealt f := by
  have hnot : ((s.record i).any fun r => r.owner == some l && f r) = false := by
    cases hp : s.record i with
    | none => rfl
    | some p => simp [h p hp]
  simp [State.ownedAmong, hnot]

theorem State.tallied_other (h : ∀ p, s.record i = some p → p.owner ≠ some l) :
    s.tallied l all (dealt ++ [i]) = s.tallied l all dealt := by
  simp only [State.tallied, State.ownedAmong_other h]

variable {p : Record} (hp : s.record i = some p) (ho : p.owner = some l)
include hp ho

theorem State.ownedAmong_owned (f : Record → Bool) :
    s.ownedAmong l (dealt ++ [i]) f = s.ownedAmong l dealt f ++ if f p then [i] else [] := by
  cases hf : f p <;> simp [State.ownedAmong, hp, ho, hf]

theorem State.tallied_freed (h : all = true ∨ p.policy = .drop) :
    s.tallied l all (dealt ++ [i]) = (s.tallied l all dealt).countFreed := by
  simp only [State.tallied, State.ownedAmong_owned hp ho, Tally.countFreed]
  rcases h with rfl | h
  · simp
  · simp [h]

theorem State.tallied_passedOn (h : ¬(all = true ∨ p.policy = .drop)) :
    s.tallied l all (dealt ++ [i]) = if s.adopts l p then (s.tallied l all dealt).countAdopted
      else (s.tallied l all dealt).countKept (p.policy == .adopt && s.inSession l.other) := by
  obtain ⟨hall, hdrop⟩ := not_or.mp h
  simp only [State.tallied, State.ownedAmong_owned hp ho, Tally.countAdopted, Tally.countKept]
  by_cases hadopts : s.adopts l p = true
  · obtain ⟨hpolicy, hin, -⟩ := State.adopts_iff.mp hadopts
    simp [hall, hadopts, hpolicy, hin]
  · cases hpolicy : p.policy == .adopt <;> cases hin : s.inSession l.other <;> simp [hall, hdrop, hadopts]

end

/-- The records of a departing link dealt with, slot by slot. -/
theorem Departing.all {s u : State} {l : Link} {all : Bool} (hs : OwnershipSound s) (h : Departing s u l all [])
    {dealt : List SlotIx} (hnodup : dealt.Nodup) :
    Departing s (dealt.foldl (departSlot l all) (u, .none)).1 l all dealt ∧
      (dealt.foldl (departSlot l all) (u, .none)).2 = s.tallied l all dealt := by
  induction dealt using List.reverseRecOn with
  | nil => exact ⟨h, by simp [State.tallied, State.ownedAmong, Tally.none]⟩
  | append_singleton is i ih =>
    obtain ⟨his, -, hdisjoint⟩ := List.nodup_append'.mp hnodup
    have hi : i ∉ is := fun hmem => hdisjoint hmem (List.mem_singleton_self i)
    obtain ⟨hdone, htally⟩ := ih his
    rw [List.foldl_append, List.foldl_cons, List.foldl_nil]
    generalize is.foldl (departSlot l all) (u, .none) = acc at hdone htally ⊢
    by_cases howned : ∃ p, s.record i = some p ∧ p.owner = some l
    · obtain ⟨p, hp, ho⟩ := howned
      obtain ⟨b, hu⟩ := (hdone.undealt hi).record hp
      by_cases hfree : all = true ∨ p.policy = .drop
      · rw [departSlot_freed hu ho hfree, State.tallied_freed hp ho hfree, htally]
        exact ⟨hdone.next_freed hi hp ho hs hfree, rfl⟩
      · rw [departSlot_passedOn hu ho hfree, State.tallied_passedOn hp ho hfree, htally, hdone.adopts hi hs hp ho,
          hdone.inSession]
        exact ⟨hdone.next_passedOn hi hp ho hs hfree hu, rfl⟩
    · have hother : ∀ p, s.record i = some p → p.owner ≠ some l := fun p hp ho => howned ⟨p, hp, ho⟩
      have hother' : ∀ r, acc.1.record i = some r → r.owner ≠ some l := by
        intro r hr ho
        have hx := State.record_eq_some.mp hr
        rcases hdone.undealt hi with e | ⟨q, hq, e⟩
        · exact hother r ((State.record_of_slot e).symm.trans hr) ho
        · rw [e] at hx
          cases hx
          exact hother q (State.record_eq_some.mpr hq) ho
      rw [departSlot_other hother', State.tallied_other hother]
      exact ⟨hdone.next_other hi hother, htally⟩

/-! ### The stages before the role passes (R154) -/

/-- Dealing with the records touches the table and the changed sets alone. -/
theorem State.departRecords_frame (s : State) (l : Link) (all : Bool) :
    let t := (s.departRecords l all).1
    (t.held = s.held ∧ t.time = s.time ∧ t.ports = s.ports ∧ t.map = s.map ∧ t.panel = s.panel ∧ t.keys = s.keys ∧
      t.horn = s.horn ∧ t.supply = s.supply ∧ t.pending = s.pending) ∧ s.sameRoles t := by
  unfold State.departRecords
  refine List.foldlRecOn (motive := fun acc : State × Tally => (acc.1.held = s.held ∧ acc.1.time = s.time ∧
    acc.1.ports = s.ports ∧ acc.1.map = s.map ∧ acc.1.panel = s.panel ∧ acc.1.keys = s.keys ∧ acc.1.horn = s.horn ∧
    acc.1.supply = s.supply ∧ acc.1.pending = s.pending) ∧ s.sameRoles acc.1) _ _
    ⟨⟨rfl, rfl, rfl, rfl, rfl, rfl, rfl, rfl, rfl⟩, rfl, rfl, rfl, rfl⟩ fun acc ⟨hframe, hroles⟩ i _ => ?_
  rcases departSlot_cases l all acc i with ⟨e, -⟩ | ⟨r, hr, -, e | e | ⟨-, -, e⟩⟩ <;> rw [e]
  · exact ⟨hframe, hroles⟩
  · obtain ⟨-, -, -, -, hfreed⟩ := State.retireFree_spec hr
    exact ⟨by simpa using hframe, State.sameRoles_trans hroles hfreed⟩
  · exact ⟨by simpa using hframe, by simpa [State.sameRoles] using hroles⟩
  · exact ⟨by simpa using hframe, by simpa [State.sameRoles, State.joinChanged] using hroles⟩

/-- What a departure has counted and left of its link's records, its request cancelled first (R154 stages 1 and 2). -/
def State.recordsDealt (s : State) (l : Link) (all : Bool) : State × Tally := (s.cancelRequest l).departRecords l all

/-- A departure before the role passes: the link's tombstones freed and its session closed (R154 stages 3 and 4). -/
def State.vacated (s : State) (l : Link) (all : Bool) (into : SessionState) : State :=
  ((s.recordsDealt l all).1.freeTombstones l).closeSession l into

theorem State.recordsDealt_spec {s : State} (hs : OwnershipSound s) (l : Link) (all : Bool) :
    Departing s (s.recordsDealt l all).1 l all allSlots ∧ (s.recordsDealt l all).2 = s.tallied l all allSlots :=
  (Departing.start l all rfl rfl rfl rfl : Departing s (s.cancelRequest l) l all []).all hs (List.nodup_finRange 64)

/-- The slots as a departure leaves them: the records dealt with, and the tombstones of its link freed. -/
theorem State.dropTombstoneOf_dealtSlot (s : State) (l : Link) (all : Bool) (j : SlotIx) :
    (s.dealtSlot l all allSlots j).dropTombstoneOf l = s.departedSlot l all j := by
  have hj : j ∈ allSlots := List.mem_finRange j
  cases hx : (s.slot j).content with
  | free => simp [State.dealtSlot, Slot.isLive, Slot.dropTombstoneOf, State.departedSlot, hx]
  | tombstone t => simp [State.dealtSlot, Slot.isLive, Slot.dropTombstoneOf, State.departedSlot, hx, Slot.freed]
  | live r =>
    have hlive : (s.slot j).isLive = true := Slot.isLive_iff.mpr ⟨r, hx⟩
    rw [State.dealtSlot, if_pos ⟨hj, hlive⟩]
    rcases Slot.dropTombstoneOf_cases l (s.departedSlot l all j) with ⟨t, ht, -, -⟩ | ⟨e, -⟩
    · simp only [State.departedSlot, hx] at ht
      split at ht
      · rw [hx] at ht
        cases ht
      · split at ht <;> cases ht
    · exact e

/-- Freeing tombstones uncovers nothing. -/
theorem State.freeTombstones_view (s : State) (l : Link) : SameView s (s.freeTombstones l) := by
  obtain ⟨hslot, harrival, -⟩ := s.freeTombstones_spec l
  refine ⟨harrival, fun j => ?_, by simp, by simp, by simp⟩
  rcases Slot.dropTombstoneOf_cases l (s.slot j) with ⟨t, ht, -, e⟩ | ⟨e, -⟩
  · have hbefore : s.record j = none := by
      simp [State.record, Table.record, show s.table.slot j = s.slot j from rfl, ht]
    have hafter : (s.freeTombstones l).record j = none := by
      have hfreed : (s.freeTombstones l).table.slot j = (s.slot j).freed := (hslot j).trans e
      simp [State.record, Table.record, hfreed, Slot.freed]
    rw [hbefore, hafter]
  · rw [State.record_of_slot ((hslot j).trans e)]

/-- The table of a departure (R153–R155): every slot as `State.departedSlot` has it but for surfacing, the records freed
out of the arrival order, and the low-table flag examined. -/
structure Vacated (s t : State) (l : Link) (all : Bool) : Prop where
  slots : ∀ j, s.surfacedInTurn t (allSlots.filter (s.departureFrees l all)) j (s.departedSlot l all j)
  arrival : t.table.arrival = s.table.arrival.filter fun i => !s.departureFrees l all i
  low : t.table.low = lowAfterFreeing s t

/-- What a departure makes of the table is judged by the table and by what is visible. -/
theorem Vacated.congr {s t u : State} {l : Link} {all : Bool} (h : Vacated s t l all) (htable : u.table = t.table)
    (hview : SameView t u) : Vacated s u l all where
  slots j := State.surfacedInTurn_congr (State.slot_congr (by rw [htable]) j) hview.visibleSlot (h.slots j)
  arrival := by rw [htable, h.arrival]
  low := by rw [htable, h.low, lowAfterFreeing, lowAfterFreeing, htable]

theorem Departing.vacated {s u : State} {l : Link} {all : Bool} (h : Departing s u l all allSlots) :
    Vacated s (u.freeTombstones l) l all := by
  obtain ⟨hslot, harrival, hlow⟩ := u.freeTombstones_spec l
  have hview := u.freeTombstones_view l
  have hfreeing : u.table.freeCount ≤ (u.freeTombstones l).table.freeCount := by
    refine Table.freeCount_mono fun j hj => ?_
    change ((u.freeTombstones l).slot j).isFree = true
    rw [hslot j]
    rcases Slot.dropTombstoneOf_cases l (u.slot j) with ⟨-, -, -, e⟩ | ⟨e, -⟩ <;> rw [e]
    · rfl
    · exact hj
  refine ⟨fun j => ?_, ?_, ?_⟩
  · have hturn := h.slots j
    rw [← State.dropTombstoneOf_dealtSlot]
    by_cases hlive : ∃ r, (s.dealtSlot l all allSlots j).content = .live r
    · obtain ⟨r, hr⟩ := hlive
      have hkept {x : Slot} {q : Record} (hx : x.content = .live q) : x.dropTombstoneOf l = x := by
        simp [Slot.dropTombstoneOf, hx]
      rw [hkept hr]
      refine State.surfacedInTurn_congr ?_ hview.visibleSlot hturn
      rw [hslot j]
      rcases State.surfacedInTurn_same hturn with e | ⟨q, -, e⟩
      · rw [e, hkept hr]
      · rw [e, hkept rfl]
    · have hdead := not_exists.mp hlive
      rw [State.surfacedInTurn_dead hdead] at hturn
      rw [State.surfacedInTurn_dead, hslot j, hturn]
      rcases Slot.dropTombstoneOf_cases l (s.dealtSlot l all allSlots j) with ⟨-, -, -, e⟩ | ⟨e, -⟩ <;> rw [e]
      · exact Slot.freed_content_ne_live _
      · exact hdead
  · rw [harrival, h.arrival]
    exact List.filter_congr fun j _ => by simp [allSlots]
  · rw [hlow, lowAfterFreeing_trans h.low h.freeing hfreeing]

/-! ### The role passes (R160) -/

/-- The primary's departure passes the role on; any other link's leaves it. -/
def State.rolePassed (s : State) (l : Link) : State :=
  if s.sessions.primary = some l then s.primaryDeparts l else s

/-- The notices of the other link once the role has passed (R82, R160). -/
def State.roleNotices (s : State) (l : Link) : NoticeSet :=
  let n := (s.session l.other).notices
  if s.inSession l.other then
    { n with
      role :=
        if s.promotes l then some .gained else if s.sessions.primary = some l then some .vacant else n.role
      map := if s.promotes l = true ∧ s.map.commit = .pending then some .abandoned else n.map }
  else n

/-- The departure of `l` has passed the role on from `s` to `t`. -/
structure RolePassed (s t : State) (l : Link) : Prop where
  session : t.session l = s.session l
  heir : t.session l.other =
    { s.session l.other with
      state := if s.promotes l then .primary else (s.session l.other).state
      notices := s.roleNotices l }
  primary : t.sessions.primary =
    if s.promotes l then some l.other else if s.sessions.primary = some l then none else s.sessions.primary
  permit : t.sessions.permit = if s.sessions.primary = some l then none else s.sessions.permit
  waiting : t.sessions.waiting =
    if s.promotes l = true ∧ s.sessions.waiting = some l.other then none else s.sessions.waiting
  due : t.sessions.takeoverDue = s.sessions.takeoverDue
  port : t.port l = s.port l
  heirPort : t.port l.other = s.heirPort l

theorem State.promotes_iff {s : State} {l : Link} : s.promotes l = true ↔ s.sessions.primary = some l ∧
    (s.session l.other).state = .standby ∧
      ((s.session l.other).failover = true ∨ s.sessions.waiting = some l.other) := by
  simp [State.promotes, and_assoc]

/-- No TAKEOVER that waited is answered. -/
theorem State.heirPort_unanswered {s : State} {l : Link}
    (h : ¬(s.promotes l = true ∧ s.sessions.waiting = some l.other)) : s.heirPort l = s.port l.other := by
  unfold State.heirPort
  split
  · rw [if_neg h]
  · rfl

theorem State.changePrimary_session (s : State) (p : Option Link) (m : Link) :
    (s.changePrimary p).session m = s.session m := rfl

theorem State.promote_session (s : State) (l m : Link) :
    (s.promote l).session m =
      if m = l then
        { s.session m with state := .primary, notices := { (s.session m).notices with role := some .gained } }
      else s.session m := by
  rw [State.promote, State.notify_session]
  by_cases h : m = l
  · subst h
    simp [State.inSession, State.changePrimary_session, State.setSessionState, SessionState.inSession, NoticeSet.putRole]
  · simp [State.changePrimary_session, State.setSessionState, State.session_setSession, h]

theorem State.promote_roles (s : State) (l : Link) :
    (s.promote l).sessions.primary = some l ∧ (s.promote l).sessions.permit = none ∧
      (s.promote l).sessions.waiting = s.sessions.waiting ∧
      (s.promote l).sessions.takeoverDue = s.sessions.takeoverDue :=
  ((s.setSessionState l .primary).changePrimary (some l)).notify_roles l _

/-- No commit is pending once the primary has gone (R82). -/
def State.idled (s : State) : State := s.setMap { s.map with commit := .idle }

/-- The role falls vacant: no waiting TAKEOVER and no standby that takes over. -/
theorem State.primaryDeparts_vacant {s : State} {l : Link} (hp : s.sessions.primary = some l)
    (h : s.promotes l = false) : RolePassed s (s.primaryDeparts l) l := by
  have hpass : s.primaryDeparts l = (s.idled.changePrimary none).notify l.other (.putRole .vacant) :=
    if_neg fun c => Bool.eq_false_iff.mp h (State.promotes_iff.mpr ⟨hp, c⟩)
  have hports : (s.primaryDeparts l).ports = s.ports := by simp [hpass, State.idled]
  have hheir : s.heirPort l = s.port l.other := State.heirPort_unanswered (by simp [h])
  have hin : (s.idled.changePrimary none).inSession l.other = s.inSession l.other := rfl
  have hsession (m : Link) : (s.idled.changePrimary none).session m = s.session m := rfl
  obtain ⟨primary, permit, waiting, due⟩ := (s.idled.changePrimary none).notify_roles l.other (.putRole .vacant)
  rw [← hpass] at primary permit waiting due
  refine ⟨?_, ?_, ?_, ?_, ?_, due, State.port_congr hports l, by rw [hheir, State.port_congr hports]⟩
  · rw [hpass, State.notify_session, if_neg fun c => l.ne_other c.1, hsession]
  · rw [hpass, State.notify_session, hin, hsession, State.roleNotices]
    cases s.inSession l.other <;> simp [NoticeSet.putRole, h, hp]
  · rw [primary, h, hp]
    simp [State.changePrimary]
  · rw [permit, if_pos hp]
    rfl
  · rw [waiting, h]
    rfl

/-- A standby promoted: the commit it finds pending is abandoned (R82, R160). -/
def State.promotedTold (s : State) (l : Link) : State :=
  if s.map.commit = .pending then (s.idled.promote l.other).notify l.other (.putMap .abandoned)
  else s.idled.promote l.other

theorem State.promotedTold_spec {s : State} {l : Link} (h : s.promotes l = true) :
    (s.promotedTold l).ports = s.ports ∧ (s.promotedTold l).session l = s.session l ∧
    (s.promotedTold l).session l.other = { s.session l.other with state := .primary, notices := s.roleNotices l } ∧
    (s.promotedTold l).sessions.primary = some l.other ∧ (s.promotedTold l).sessions.permit = none ∧
    (s.promotedTold l).sessions.waiting = s.sessions.waiting ∧
    (s.promotedTold l).sessions.takeoverDue = s.sessions.takeoverDue := by
  obtain ⟨-, hstandby, -⟩ := State.promotes_iff.mp h
  have hin : s.inSession l.other = true := by rw [State.inSession, hstandby]; rfl
  have hsession (m : Link) : s.idled.session m = s.session m := rfl
  have hports : s.idled.ports = s.ports := rfl
  have hpromoted : (s.idled.promote l.other).inSession l.other = true := by
    rw [State.inSession, State.promote_session, if_pos rfl]
    rfl
  obtain ⟨primary, permit, waiting, due⟩ := s.idled.promote_roles l.other
  unfold State.promotedTold
  split
  · next hpending =>
    obtain ⟨primary', permit', waiting', due'⟩ :=
      (s.idled.promote l.other).notify_roles l.other (.putMap .abandoned)
    refine ⟨by simp [hports], ?_, ?_, primary'.trans primary, permit'.trans permit, waiting'.trans waiting, due'.trans due⟩
    · rw [State.notify_session, if_neg fun c => l.ne_other c.1, State.promote_session, if_neg l.ne_other, hsession]
    · rw [State.notify_session, if_pos ⟨rfl, hpromoted⟩, State.promote_session, if_pos rfl, hsession]
      simp [State.roleNotices, hin, h, hpending, NoticeSet.putMap]
  · next hidle =>
    refine ⟨by simp [hports], ?_, ?_, primary, permit, waiting, due⟩
    · rw [State.promote_session, if_neg l.ne_other, hsession]
    · rw [State.promote_session, if_pos rfl, hsession]
      simp [State.roleNotices, hin, h, hidle]

/-- The promoted link's waiting TAKEOVER is answered in its slot. -/
theorem State.answerExecuting_heirPort {s v : State} {l : Link} (h : s.promotes l = true)
    (hwait : s.sessions.waiting = some l.other) (hports : v.ports = s.ports) :
    (v.answerExecuting l.other .ok).port l = s.port l ∧ (v.answerExecuting l.other .ok).port l.other = s.heirPort l := by
  obtain ⟨hanswer, hnone⟩ := v.answerExecuting_spec l.other .ok
  have hslot : (v.port l.other).slot = (s.port l.other).slot := by rw [State.port_congr hports]
  cases hreq : (s.port l.other).slot with
  | executing q =>
    rw [hanswer q (by rw [State.executing, hslot, hreq]), State.heirPort, hreq]
    simp only [h, hwait, and_self, if_true]
    simp [State.port, State.portsAnswering, hports]
  | _ =>
    rw [hnone (by rw [State.executing, hslot, hreq]), State.heirPort, hreq, State.port_congr hports, State.port_congr hports]
    exact ⟨rfl, rfl⟩

/-- Where the promoted link's TAKEOVER waited, it is answered OK. -/
theorem State.primaryDeparts_promoted {s : State} {l : Link} (h : s.promotes l = true) :
    RolePassed s (s.primaryDeparts l) l := by
  obtain ⟨ports, session, heir, primary, permit, waiting, due⟩ := State.promotedTold_spec h
  obtain ⟨hp, hstandby, hclaim⟩ := State.promotes_iff.mp h
  have hpass : s.primaryDeparts l = if s.sessions.waiting = some l.other then
      ((s.promotedTold l).setSessions { (s.promotedTold l).sessions with waiting := none }).answerExecuting l.other .ok
      else s.promotedTold l := if_pos ⟨hstandby, hclaim⟩
  generalize s.promotedTold l = u at hpass ports session heir primary permit waiting due
  by_cases hwait : s.sessions.waiting = some l.other
  · rw [if_pos hwait] at hpass
    generalize hv : u.setSessions { u.sessions with waiting := none } = v at hpass
    have hvsession (m : Link) : v.session m = u.session m := by rw [← hv]; rfl
    have hvports : v.ports = s.ports := by rw [← hv, ← ports]; rfl
    have hsessions : (s.primaryDeparts l).sessions = { u.sessions with waiting := none } := by
      rw [hpass, (v.answerExecuting_frame l.other .ok).2.2.1, ← hv]
      rfl
    have hanswered := State.answerExecuting_heirPort h hwait hvports
    have hpassed (m : Link) : (s.primaryDeparts l).session m = u.session m :=
      (State.session_congr (s := v) (by rw [hsessions, ← hv]; rfl) m).trans (hvsession m)
    rw [← hpass] at hanswered
    exact ⟨by rw [hpassed, session], by rw [hpassed, heir, h]; rfl, by rw [hsessions, primary, h]; rfl,
      by rw [hsessions, permit, if_pos hp], by rw [hsessions, if_pos ⟨h, hwait⟩], by rw [hsessions, due],
      hanswered.1, hanswered.2⟩
  · rw [if_neg hwait] at hpass
    have hheir : s.heirPort l = s.port l.other := State.heirPort_unanswered fun c => hwait c.2
    rw [hpass]
    exact ⟨session, by rw [heir, h]; rfl, by rw [primary, h]; rfl, by rw [permit, if_pos hp],
      by rw [waiting, if_neg fun c => hwait c.2], due, State.port_congr ports l, by rw [hheir, State.port_congr ports]⟩
/-- The role of a departing primary passes on, and any other stands. -/
theorem State.rolePassed_spec (s : State) (l : Link) : RolePassed s (s.rolePassed l) l := by
  unfold State.rolePassed
  split
  · next hp =>
    cases h : s.promotes l with
    | true => exact State.primaryDeparts_promoted h
    | false => exact State.primaryDeparts_vacant hp h
  · next hp =>
    have h : s.promotes l = false := Bool.eq_false_iff.mpr fun c => hp (State.promotes_iff.mp c).1
    have hheir : s.heirPort l = s.port l.other := State.heirPort_unanswered (by simp [h])
    exact ⟨rfl, by simp [State.roleNotices, h, hp], by simp [h, hp], (if_neg hp).symm, by simp [h], rfl, rfl, hheir.symm⟩

/-! ### The other link is told (R154 stage 6, R156, R157, R166) -/

/-- PEER, ADOPTION and ORPHANS at the departure of `l`. -/
def State.departureTold (s : State) (l : Link) (peer : PeerNotice) (tally : Tally) (orphansBefore : Nat) : State :=
  ((s.notify l.other (.putPeer peer)).tellAdoption l.other tally).tellOrphans orphansBefore

section
variable (s : State) (l : Link) (peer : PeerNotice) (tally : Tally) (n : Nat)

@[simp] theorem State.departureTold_frame :
    (s.departureTold l peer tally n).held = s.held ∧ (s.departureTold l peer tally n).time = s.time ∧
    (s.departureTold l peer tally n).ports = s.ports ∧ (s.departureTold l peer tally n).table = s.table ∧
    (s.departureTold l peer tally n).map = s.map ∧ (s.departureTold l peer tally n).panel = s.panel ∧
    (s.departureTold l peer tally n).keys = s.keys ∧ (s.departureTold l peer tally n).horn = s.horn ∧
    (s.departureTold l peer tally n).supply = s.supply ∧ (s.departureTold l peer tally n).pending = s.pending := by
  simp [State.departureTold]

theorem State.tellAdoption_session (m : Link) : (s.tellAdoption l tally).session m =
    if m = l ∧ s.inSession l = true ∧ tally.adoptSeen = true then
      { s.session m with
        notices := { (s.session m).notices with
          adoption := some (if tally.collision then .conflict else .adopted) } }
    else s.session m := by
  unfold State.tellAdoption
  cases tally.adoptSeen <;> simp [State.notify_session, NoticeSet.putAdoption]

theorem State.tellAdoption_roles : s.sameRoles (s.tellAdoption l tally) := by
  unfold State.tellAdoption
  split
  · exact State.notify_roles ..
  · exact ⟨rfl, rfl, rfl, rfl⟩

theorem State.tellOrphans_roles : s.sameRoles (s.tellOrphans n) := by
  unfold State.tellOrphans
  split
  · exact State.notifyPrimary_roles ..
  · exact ⟨rfl, rfl, rfl, rfl⟩

theorem State.tellOrphans_session (m : Link) : (s.tellOrphans n).session m =
    if s.sessions.primary = some m ∧ s.inSession m = true ∧ n = 0 ∧ s.table.orphanCount ≠ 0 then
      { s.session m with notices := { (s.session m).notices with orphans := true } }
    else s.session m := by
  unfold State.tellOrphans
  by_cases h : n = 0 ∧ s.table.orphanCount ≠ 0 <;> simp [h, State.notifyPrimary_session, NoticeSet.putOrphans]

theorem State.departureTold_roles : s.sameRoles (s.departureTold l peer tally n) :=
  State.sameRoles_trans (State.notify_roles ..) <| State.sameRoles_trans (State.tellAdoption_roles ..) <|
    State.tellOrphans_roles ..

/-- Nothing is told to a link that has departed. -/
theorem State.departureTold_session (h : s.sessions.primary ≠ some l) :
    (s.departureTold l peer tally n).session l = s.session l := by
  have hroles := State.sameRoles_trans (s.notify_roles l.other (.putPeer peer))
    ((s.notify l.other (.putPeer peer)).tellAdoption_roles l.other tally)
  rw [State.departureTold, State.tellOrphans_session, if_neg fun c => h (hroles.1.symm.trans c.1),
    State.tellAdoption_session, if_neg fun c => l.ne_other c.1, State.notify_session, if_neg fun c => l.ne_other c.1]

/-- The other link is told what there is to tell, if it is in session. -/
theorem State.departureTold_heir : (s.departureTold l peer tally n).session l.other =
    if s.inSession l.other then
      { s.session l.other with
        notices := { (s.session l.other).notices with
          peer := some peer
          adoption :=
            if tally.adoptSeen then some (if tally.collision then .conflict else .adopted)
            else (s.session l.other).notices.adoption
          orphans := (s.session l.other).notices.orphans ||
            (n == 0 && s.table.orphanCount != 0 && s.sessions.primary == some l.other) } }
    else s.session l.other := by
  have hroles := State.sameRoles_trans (s.notify_roles l.other (.putPeer peer))
    ((s.notify l.other (.putPeer peer)).tellAdoption_roles l.other tally)
  have hin : ((s.notify l.other (.putPeer peer)).tellAdoption l.other tally).inSession l.other = s.inSession l.other := by
    rw [← s.notify_inSession l.other l.other (.putPeer peer)]
    refine State.inSession_of_session ?_
    rw [State.tellAdoption_session]
    split <;> rfl
  rw [State.departureTold, State.tellOrphans_session, hin, hroles.1, State.tellAdoption_session,
    State.notify_inSession, State.notify_session]
  cases hheir : s.inSession l.other with
  | false => simp
  | true =>
    by_cases hp : s.sessions.primary = some l.other <;> by_cases hn : n = 0 <;>
      by_cases ho : s.table.orphanCount = 0 <;> cases tally.adoptSeen <;> simp [hp, hn, ho, NoticeSet.putPeer]

end

/-! ### Departures whole (R154) -/

theorem State.depart_eq (s : State) (l : Link) (all : Bool) (into : SessionState) (peer : PeerNotice)
    (h : (s.vacated l all into).sessions.primary = s.sessions.primary) :
    (s.depart l all into peer).1 = (((s.vacated l all into).rolePassed l).departureTold l peer
      (s.recordsDealt l all).2 s.table.orphanCount).redecideHorn := by
  rw [State.rolePassed, h, State.vacated, State.recordsDealt, State.departureTold]
  unfold State.depart
  dsimp only

/-- Before the role passes: the departing link's session is closed, its request cancelled, its claims on the role gone. -/
theorem State.vacated_sessions (s : State) (l : Link) (all : Bool) (into : SessionState) :
    let v := s.vacated l all into
    v.session l = .out into ∧ v.session l.other = (s.recordsDealt l all).1.session l.other ∧
    v.sessions.primary = s.sessions.primary ∧
    v.sessions.permit = (if s.sessions.permit = some l then none else s.sessions.permit) ∧
    v.sessions.waiting = (if s.sessions.waiting = some l then none else s.sessions.waiting) ∧
    v.sessions.takeoverDue = s.sessions.takeoverDue := by
  obtain ⟨-, primary, permit, waiting, due⟩ := (s.cancelRequest l).departRecords_frame l all
  dsimp only [State.vacated, State.recordsDealt]
  generalize ((s.cancelRequest l).departRecords l all).1 = u at *
  have hsessions : (u.freeTombstones l).sessions = u.sessions := by simp
  refine ⟨?_, ?_, ?_, ?_, ?_, ?_⟩
  · exact PerLink.get_set_same ..
  · exact (PerLink.get_set_other ..).trans (congrArg (fun x => x.links.get l.other) hsessions)
  · exact (congrArg _ hsessions).trans primary
  · change (if (u.freeTombstones l).sessions.permit = some l then none else (u.freeTombstones l).sessions.permit) = _
    rw [hsessions, permit]
    rfl
  · exact (congrArg _ hsessions).trans waiting
  · exact (congrArg _ hsessions).trans due

section
variable {s : State} {l : Link} {all : Bool} {into : SessionState}

/-- What the departure leaves of the other link's session is what it was, but for the changed set. -/
theorem State.vacated_heir (hs : OwnershipSound s) : (s.vacated l all into).session l.other =
    { s.session l.other with changed := ((s.recordsDealt l all).1.session l.other).changed } := by
  obtain ⟨-, hother, -⟩ := s.vacated_sessions l all into
  rw [hother, (s.recordsDealt_spec hs l all).1.sessions]

theorem State.vacated_port (m : Link) :
    (s.vacated l all into).port m = if m = l then { s.port l with slot := .empty } else s.port m := by
  obtain ⟨⟨-, -, ports, -⟩, -⟩ := (s.cancelRequest l).departRecords_frame l all
  have hports : (s.vacated l all into).ports = (s.cancelRequest l).ports := by
    simp [State.vacated, State.recordsDealt, ports]
  rw [State.port_congr hports]
  exact s.port_setPort l m _

theorem State.vacated_waits :
    (s.vacated l all into).sessions.waiting = some l.other ↔ s.sessions.waiting = some l.other := by
  obtain ⟨-, -, -, -, waiting, -⟩ := s.vacated_sessions l all into
  rw [waiting]
  by_cases h : s.sessions.waiting = some l <;> simp [h, l.ne_other]

/-- Who is promoted is not affected by the stages before. -/
theorem State.vacated_promotes (hs : OwnershipSound s) : (s.vacated l all into).promotes l = s.promotes l := by
  obtain ⟨-, -, primary, -⟩ := s.vacated_sessions l all into
  rw [Bool.eq_iff_iff, State.promotes_iff, State.promotes_iff, primary, State.vacated_waits, State.vacated_heir hs]

theorem State.vacated_heirPort (hs : OwnershipSound s) : (s.vacated l all into).heirPort l = s.heirPort l := by
  have hport : (s.vacated l all into).port l.other = s.port l.other := by
    rw [State.vacated_port, if_neg l.other_ne]
  simp [State.heirPort, State.portsAnswering, hport, State.vacated_promotes hs, State.vacated_waits]

theorem State.vacated_roleNotices (hs : OwnershipSound s) :
    (s.vacated l all into).roleNotices l = s.roleNotices l := by
  obtain ⟨-, -, primary, -⟩ := s.vacated_sessions l all into
  obtain ⟨⟨-, -, -, hmap, -⟩, -⟩ := (s.cancelRequest l).departRecords_frame l all
  have hmap : (s.vacated l all into).map = s.map := by simp [State.vacated, State.recordsDealt, hmap]
  have hin : (s.vacated l all into).inSession l.other = s.inSession l.other := by
    rw [State.inSession, State.vacated_heir hs]
    rfl
  simp [State.roleNotices, State.vacated_heir hs, State.vacated_promotes hs, primary, hmap, hin]

/-- The notices that a departure has told, put together (R154 stage 6). -/
theorem State.heirNotices_eq {t : State} {peer : PeerNotice} : s.heirNotices t l all peer =
    if s.inSession l.other then
      { s.roleNotices l with
        peer := some peer
        adoption :=
          if (s.tallied l all allSlots).adoptSeen then
            some (if (s.tallied l all allSlots).collision then .conflict else .adopted)
          else (s.roleNotices l).adoption
        orphans := (s.roleNotices l).orphans ||
          (s.table.orphanCount == 0 && t.table.orphanCount != 0 && t.sessions.primary == some l.other) }
    else s.roleNotices l := by
  cases hin : s.inSession l.other with
  | false => simp [State.heirNotices, State.roleNotices, hin]
  | true =>
    have hcollides : s.collides l =
        !(s.ownedAmong l allSlots fun q => q.policy == .adopt && !s.adopts l q).isEmpty := by
      refine congrArg (!List.isEmpty ·) (List.filter_congr fun i _ => ?_)
      refine congrArg (Option.any · _) (funext fun q => ?_)
      simp only [State.adopts, hin, Bool.and_true]
      cases q.policy == .adopt <;> simp
    have hseen : (s.ownedSlots l fun q => q.policy == .adopt) = s.ownedAmong l allSlots fun q => q.policy == .adopt :=
      rfl
    simp only [State.heirNotices, State.roleNotices, State.tallied, hin, hcollides, hseen]
    cases all <;> simp
end

@[simp] theorem State.rolePassed_frame (s : State) (l : Link) :
    (s.rolePassed l).held = s.held ∧ (s.rolePassed l).time = s.time ∧ (s.rolePassed l).table = s.table ∧
    (s.rolePassed l).panel = s.panel ∧ (s.rolePassed l).keys = s.keys ∧ (s.rolePassed l).horn = s.horn ∧
    (s.rolePassed l).supply = s.supply ∧ (s.rolePassed l).pending = s.pending := by
  unfold State.rolePassed
  split <;> simp

/-- A departure before the horn is re-decided. -/
def State.departedUndecided (s : State) (l : Link) (all : Bool) (into : SessionState) (peer : PeerNotice) : State :=
  ((s.vacated l all into).rolePassed l).departureTold l peer (s.recordsDealt l all).2 s.table.orphanCount

section
variable (s : State) (l : Link) (all : Bool) (into : SessionState) (peer : PeerNotice)

theorem State.departedUndecided_redecided :
    (s.depart l all into peer).1 = (s.departedUndecided l all into peer).redecideHorn :=
  State.depart_eq s l all into peer (s.vacated_sessions l all into).2.2.1

theorem State.departedUndecided_frame :
    let u := s.departedUndecided l all into peer
    u.held = s.held ∧ u.time = s.time ∧ u.panel = s.panel ∧ u.keys = s.keys ∧ u.horn = s.horn ∧ u.supply = s.supply ∧
      u.pending = s.pending ∧ u.table = ((s.recordsDealt l all).1.freeTombstones l).table := by
  obtain ⟨⟨held, time, -, -, panel, keys, horn, supply, pending⟩, -⟩ := (s.cancelRequest l).departRecords_frame l all
  simp [State.departedUndecided, State.vacated, State.recordsDealt, held, time, panel, keys, horn, supply, pending]

theorem State.departedUndecided_roles :
    let p := (s.vacated l all into).rolePassed l
    p.sameRoles (s.departedUndecided l all into peer) ∧ (s.departedUndecided l all into peer).ports = p.ports :=
  ⟨State.departureTold_roles .., by simp [State.departedUndecided]⟩

/-- The departed link's session is closed. -/
theorem State.departedUndecided_gone : (s.departedUndecided l all into peer).session l = .out into := by
  have hp : ((s.vacated l all into).rolePassed l).sessions.primary ≠ some l := by
    rw [((s.vacated l all into).rolePassed_spec l).primary]
    split
    · exact fun c => l.other_ne (Option.some.inj c)
    · split
      · nofun
      · assumption
  rw [State.departedUndecided, State.departureTold_session _ _ _ _ _ hp,
    ((s.vacated l all into).rolePassed_spec l).session, (s.vacated_sessions l all into).1]

end

section
variable {s : State} (hs : OwnershipSound s) (l : Link) (all : Bool) (into : SessionState) (peer : PeerNotice)
include hs

/-- The roles and the claims on them as a departure leaves them (R160). -/
theorem State.departedUndecided_sessions :
    let u := s.departedUndecided l all into peer
    u.sessions.primary =
      (if s.promotes l then some l.other else if s.sessions.primary = some l then none else s.sessions.primary) ∧
    u.sessions.permit =
      (if s.sessions.primary = some l ∨ s.sessions.permit = some l then none else s.sessions.permit) ∧
    u.sessions.waiting =
      (if s.sessions.waiting = some l ∨ s.promotes l = true then none else s.sessions.waiting) ∧
    u.sessions.takeoverDue = s.sessions.takeoverDue := by
  obtain ⟨-, -, hprimary, hpermit, hwaiting, hdue⟩ := s.vacated_sessions l all into
  obtain ⟨-, -, primary, permit, waiting, due, -, -⟩ := (s.vacated l all into).rolePassed_spec l
  obtain ⟨⟨toldPrimary, toldPermit, toldWaiting, toldDue⟩, -⟩ := s.departedUndecided_roles l all into peer
  refine ⟨?_, ?_, ?_, ?_⟩
  · rw [toldPrimary, primary, State.vacated_promotes hs, hprimary]
  · rw [toldPermit, permit, hprimary, hpermit]
    by_cases hp : s.sessions.primary = some l <;> simp [hp]
  · simp only [toldWaiting, waiting, State.vacated_promotes hs, hwaiting]
    by_cases hw : s.sessions.waiting = some l
    · simp [hw]
    · cases h : s.promotes l with
      | false => simp [hw]
      | true =>
        cases hother : s.sessions.waiting with
        | none => simp
        | some m =>
          obtain rfl : m = l.other := (l.eq_or_other m).resolve_left fun e => hw (hother.trans (congrArg some e))
          simp
  · rw [toldDue, due, hdue]

/-- What the departure has made of the other link's session. -/
theorem State.departedUndecided_heir :
    let u := s.departedUndecided l all into peer
    u.session l.other =
      { s.session l.other with
        state := if s.promotes l then .primary else (s.session l.other).state
        notices := s.heirNotices u l all peer
        changed := ((s.recordsDealt l all).1.session l.other).changed } := by
  intro u
  have hheir : ((s.vacated l all into).rolePassed l).session l.other =
      { s.session l.other with
        state := if s.promotes l then .primary else (s.session l.other).state
        notices := s.roleNotices l
        changed := ((s.recordsDealt l all).1.session l.other).changed } := by
    rw [((s.vacated l all into).rolePassed_spec l).heir, State.vacated_heir hs, State.vacated_promotes hs,
      State.vacated_roleNotices hs]
  have hin : ((s.vacated l all into).rolePassed l).inSession l.other = s.inSession l.other := by
    rw [State.inSession, hheir]
    cases h : s.promotes l with
    | false => rfl
    | true => rw [State.inSession, (State.promotes_iff.mp h).2.1]; rfl
  have hroles := (s.departedUndecided_roles l all into peer).1.1
  have htable : u.table = ((s.vacated l all into).rolePassed l).table := by simp [u, State.departedUndecided]
  change ((s.vacated l all into).rolePassed l |>.departureTold l peer (s.recordsDealt l all).2
    s.table.orphanCount).session l.other = _
  rw [State.departureTold_heir, hheir, hin, State.heirNotices_eq, (s.recordsDealt_spec hs l all).2, htable, ← hroles]
  cases s.inSession l.other <;> simp [u]

/-- A departure whole, out of its stages; its own link's slot is emptied (R140, R154). -/
theorem State.depart_departed :
    Departed s (s.depart l all into peer).1 l all into peer ∧ (s.depart l all into peer).1.time = s.time ∧
      (s.depart l all into peer).1.port l = { s.port l with slot := .empty } := by
  have hmap := s.depart_map l all into peer
  rw [s.departedUndecided_redecided] at hmap ⊢
  obtain ⟨held, time, panel, keys, horn, supply, pending, table⟩ := s.departedUndecided_frame l all into peer
  obtain ⟨primary, permit, waiting, due⟩ := State.departedUndecided_sessions hs l all into peer
  have hgone := s.departedUndecided_gone l all into peer
  have hheir := State.departedUndecided_heir hs l all into peer
  have hpassed := (s.vacated l all into).rolePassed_spec l
  have hports := (s.departedUndecided_roles l all into peer).2
  have hport := (State.port_congr hports l).trans hpassed.port
  have hheirPort := (State.port_congr hports l.other).trans hpassed.heirPort
  rw [State.vacated_port, if_pos rfl] at hport
  rw [State.vacated_heirPort hs] at hheirPort
  generalize s.departedUndecided l all into peer = u at *
  obtain ⟨held', time', ports', sessions', table', map', panel', keys', supply', pending'⟩ := u.redecideHorn_frame
  have hview : SameView ((s.recordsDealt l all).1.freeTombstones l) u.redecideHorn := by
    obtain ⟨⟨-, -, -, dealtMap, -, -, -, dealtSupply, -⟩, -⟩ := (s.cancelRequest l).departRecords_frame l all
    refine .of_fields (table'.trans table) ?_ ?_
    · have hactive : u.redecideHorn.map.active = s.map.active := by
        rw [hmap]
        split <;> rfl
      rw [hactive]
      simp [State.recordsDealt, dealtMap]
    · rw [supply', supply]
      simp [State.recordsDealt, dealtSupply]
  obtain ⟨slots, arrival, low⟩ := (s.recordsDealt_spec hs l all).1.vacated.congr (table'.trans table) hview
  have hsession (m : Link) : u.redecideHorn.session m = u.session m := State.session_congr sessions' m
  have hnotices : s.heirNotices u.redecideHorn l all peer = s.heirNotices u l all peer := by
    rw [State.heirNotices, table', sessions']
    rfl
  refine ⟨⟨slots, arrival, low, (hsession l).trans hgone, ?_, fun i => ?_, by rw [sessions', primary],
    by rw [sessions', permit], by rw [sessions', waiting], by rw [sessions', due], hmap,
    (State.port_congr ports' l.other).trans hheirPort, ⟨?_, ?_⟩,
    ⟨held'.trans held, panel'.trans panel, keys'.trans keys, supply'.trans supply, pending'.trans pending⟩⟩,
    time'.trans time, (State.port_congr ports' l).trans hport⟩
  · rw [hsession, hheir, hnotices]
  · rw [hsession, hheir, (s.recordsDealt_spec hs l all).1.changed i]
    simp [allSlots]
  · exact u.redecideHorn_hornAfter.trans (State.hornAfter_congr horn.symm rfl rfl rfl).symm
  · rw [(u.redecideHorn_spec).2.1, horn]

end

/-! ### The departures of the transport: a keepalive run out, LINK_RESET (R144, R145, R151) -/

/-- Settles O43: the keepalive is due, and its expiry is a departure. -/
theorem keepaliveExpiryDeparts : Obligations.KeepaliveExpiryDeparts := by
  intro s l k hready hin hk hstart hcount hs
  have hdue : s.keepaliveDue l = true := by simp [State.keepaliveDue, hin, hk, Keepalive.expired, hstart, hcount]
  have hexpires : s.expireKeepalive l = (s.depart l false .lost .lost).1 := if_pos hdue
  exact ⟨_, (takeInside_ready hready fun x => x.expireKeepalive l).trans (congrArg _ hexpires),
    State.depart_departed hs l false .lost .lost⟩

/-- LINK_RESET ends the session of a link in session by a departure. -/
theorem State.resetSession_inSession {s : State} {l : Link} (h : s.inSession l = true) :
    s.resetSession l = (s.depart l false .offline .reset).1 := by
  unfold State.resetSession
  rcases State.inSession_iff.mp h with e | e <;> rw [e]

/-- A departure is judged from the state at an earlier moment, and from before its link's own port was touched. -/
theorem Departed.of_moved {s t : State} {l : Link} {dt : Nat} {p : Port} {all : Bool} {into : SessionState}
    {peer : PeerNotice} (h : Departed ((s.after dt).setPort l p) t l all into peer) : Departed s t l all into peer where
  slots := h.slots
  arrival := h.arrival
  low := h.low
  gone := h.gone
  heir := h.heir
  changed := h.changed
  primary := h.primary
  permit := h.permit
  waiting := h.waiting
  due := h.due
  map := h.map
  heirPort := by
    have hport : ((s.after dt).setPort l p).port l.other = s.port l.other := by
      rw [State.port_setPort, if_neg l.other_ne]
      rfl
    rw [h.heirPort, State.heirPort, State.heirPort, hport]
    simp only [State.portsAnswering, hport, PerLink.get_set_same]
    rfl
  horn := h.horn
  rest := h.rest

/-- Settles O12: the port is emptied, and the session ends by its state. -/
theorem linkResetEmptiesPort : Obligations.LinkResetEmptiesPort := by
  intro dt l bytes s hready now p
  have hexec : exec (.linkReset dt l bytes) s = .next ((now.setPort l p).resetSession l) :=
    (takeOutside_ready hready dt fun x => x.transact l 0x0E#8 bytes).trans
      (congrArg _ (State.transact_linkReset ..))
  refine ⟨fun hoffline => ?_, fun hlost => ?_, fun hin hs => ?_⟩
  · have hstands : (now.setPort l p).resetSession l = now.setPort l p := by
      unfold State.resetSession
      rw [show ((now.setPort l p).session l).state = .offline from hoffline]
    rw [hexec, hstands]
    rfl
  · have hends : (now.setPort l p).resetSession l = (now.setPort l p).setSessionState l .offline := by
      unfold State.resetSession
      rw [show ((now.setPort l p).session l).state = .lost from hlost]
    rw [hexec, hends]
    rfl
  · have hs' : OwnershipSound (now.setPort l p) := ⟨hs.out, hs.owned, hs.tombstone, hs.changed, hs.ascending, hs.keys⟩
    obtain ⟨hdeparted, htime, hport⟩ := State.depart_departed hs' l false .offline .reset
    rw [← State.resetSession_inSession (s := now.setPort l p) hin] at hdeparted htime hport
    refine ⟨_, hexec, hdeparted.of_moved, ?_, htime⟩
    rw [hport, State.port_setPort_same]

end Sys2Proof.Machine

/-! ## The queue (R138, R182)

No operation touches the queue: a command is executed with the queue's rest, which the part leaves to its step. -/

namespace Sys2Proof.Machine

/-! ### Operations leave the queue -/

section
variable (s : State) (l : Link)

@[simp] theorem State.depart_pending (all : Bool) (into : SessionState) (peer : PeerNotice) :
    (s.depart l all into peer).1.pending = s.pending := by
  obtain ⟨-, -, -, -, -, -, pending, -⟩ := s.departedUndecided_frame l all into peer
  simp [s.departedUndecided_redecided, pending]

@[simp] theorem State.expireKeepalive_pending : (s.expireKeepalive l).pending = s.pending := by
  unfold State.expireKeepalive
  split <;> simp

theorem State.resetSession_pending : (s.resetSession l).pending = s.pending := by
  unfold State.resetSession
  split <;> simp

theorem State.sendFrame_pending (bytes : List Byte) : (s.sendFrame l bytes).pending = s.pending := by
  have htaken (r : Request) : (s.takeIntoSlot l r).pending = s.pending := by
    unfold State.takeIntoSlot
    split <;> simp [State.setSlotOf]
  unfold State.sendFrame
  repeat' split
  · rfl
  · rfl
  · exact htaken _
  · exact htaken _

theorem State.transact_pending (kind : Byte) (bytes : List Byte) : (s.transact l kind bytes).pending = s.pending := by
  unfold State.transact
  dsimp only
  split
  · rfl
  · rfl
  · exact State.sendFrame_pending ..
  · rfl
  · exact State.resetSession_pending ..

theorem State.takeDueExpiries_pending : s.takeDueExpiries.pending = s.pending := by
  have hslots : (allSlots.foldl State.expireSlot s).pending = s.pending := foldl_keeps _ _ (fun _ _ => by simp) _ s
  simp [State.takeDueExpiries, hslots]

theorem State.countTick_pending : s.countTick.pending = s.pending := rfl

theorem State.startFrame_pending : s.startFrame.pending = s.pending := by
  have hadvanced : s.advanceFrame.pending = s.pending := by
    unfold State.advanceFrame
    dsimp only
    split <;> rfl
  unfold State.startFrame
  split <;> simp [hadvanced]

theorem State.passTimedEnd_pending : s.passTimedEnd.pending = s.pending := by
  unfold State.passTimedEnd
  repeat' split
  all_goals simp

theorem State.endHornPhase_pending : s.endHornPhase.pending = s.pending := by
  unfold State.endHornPhase
  split <;> simp

theorem State.takeSample_pending (mv : Nat) : (s.takeSample mv).pending = s.pending := by
  have hchanged (u : State) : (s.levelChanged u).pending = u.pending := by
    unfold State.levelChanged
    dsimp only
    split <;> simp
  unfold State.takeSample
  dsimp only
  split
  · rfl
  · exact hchanged _

/-! ### Keys leave the queue -/

theorem State.recognise_pending (k : KeyId) (c : Contact) {act : State → State}
    (h : ∀ x, (act x).pending = x.pending) : (s.recognise k c act).pending = s.pending := by
  unfold State.recognise
  repeat' split
  · rfl
  · rfl
  · exact h _

@[simp] theorem State.chordPress_pending (k : KeyId) : (s.chordPress k).pending = s.pending := by
  unfold State.chordPress
  split <;> rfl

theorem State.pressAction_pending (k : KeyId) : (s.pressAction k).pending = s.pending := by
  cases k with
  | ack =>
    rw [State.pressAction, State.ackAction]
    repeat' split
    all_goals simp [State.reportKey]
  | silence =>
    rw [State.pressAction, State.silenceAction]
    split <;> simp [State.reportKey]
  | reset =>
    rw [State.pressAction, State.resetAction]
    repeat' split
    all_goals simp [State.reportKey]
  | test =>
    rw [State.pressAction, State.testAction]
    repeat' split
    all_goals simp [State.reportKey]

theorem State.testReleaseAction_pending : s.testReleaseAction.pending = s.pending := by
  unfold State.testReleaseAction
  dsimp only
  repeat' split
  all_goals simp

theorem State.fireChord_pending : s.fireChord.pending = s.pending := by
  unfold State.fireChord
  split <;> simp

end

/-! ### Requests leave the queue -/

section
variable {s : State} {l : Link} {α : Type} {p : Option α}

/-- A request behind the session check (R181 step 2). -/
theorem sessionRequest_pending {y : α → Reply} (h : ∀ x, (y x).state.pending = s.pending) :
    (needSession s l (needPayload s p y)).state.pending = s.pending :=
  KeptByOperations.needSession (P := fun t => t.pending = s.pending) rfl fun _ =>
    KeptByOperations.needPayload (P := fun t => t.pending = s.pending) rfl fun x _ => h x

/-- A request of the primary (R181 step 3). -/
theorem primaryRequest_pending {y : α → Reply} (h : ∀ x, (y x).state.pending = s.pending) :
    (needSession s l (needPrimary s l (needPayload s p y))).state.pending = s.pending :=
  KeptByOperations.needSession (P := fun t => t.pending = s.pending) rfl fun _ =>
    KeptByOperations.needPrimary (P := fun t => t.pending = s.pending) rfl <|
      KeptByOperations.needPayload (P := fun t => t.pending = s.pending) rfl fun x _ => h x

theorem needRecord_pending {d : Handle} {y : Record → Reply} (h : ∀ r, (y r).state.pending = s.pending) :
    (needRecord s d y).state.pending = s.pending :=
  KeptByOperations.needRecord (P := fun t => t.pending = s.pending) rfl fun r _ => h r

theorem needOwner_pending {r : Record} {o : Option Link} {y : Reply} (h : y.state.pending = s.pending) :
    (needOwner s r o y).state.pending = s.pending :=
  KeptByOperations.needOwner (P := fun t => t.pending = s.pending) rfl fun _ => h

theorem needIdleCommit_pending {y : Reply} (h : y.state.pending = s.pending) :
    (needIdleCommit s y).state.pending = s.pending :=
  KeptByOperations.needIdleCommit (P := fun t => t.pending = s.pending) rfl h

/-- A request on a record by its owner (R181 steps 5 and 6). -/
theorem ownerRequest_pending {f : α → Handle} {y : α → Record → Reply} {o : Option Link}
    (h : ∀ x r, (y x r).state.pending = s.pending) :
    (needSession s l (needPayload s p fun x => needRecord s (f x) fun r => needOwner s r o (y x r))).state.pending =
      s.pending :=
  sessionRequest_pending fun x => needRecord_pending fun r => needOwner_pending (h x r)

end

section
variable (l : Link) (b : List Byte) (s : State)

theorem attachRequest_pending : (attachRequest l b s).state.pending = s.pending := by
  refine KeptByOperations.needPayload (P := fun t => t.pending = s.pending) rfl fun p _ => ?_
  have hopened : (s.openSession l p).pending = s.pending := by
    unfold State.openSession
    dsimp only
    split <;> rfl
  split
  · rfl
  · simp [hopened]

theorem detachRequest_pending : (detachRequest l b s).state.pending = s.pending :=
  sessionRequest_pending fun all => by simpa only [Reply.ok_state] using s.depart_pending l all .offline .left

theorem collectRequest_pending : (collectRequest l b s).state.pending = s.pending :=
  sessionRequest_pending fun _ => by simp [State.collected, State.freeReportedAll_frame]

theorem permitRequest_pending : (permitRequest l b s).state.pending = s.pending := by
  refine primaryRequest_pending fun grant => ?_
  have hwithdrawn : s.withdrawPermit.pending = s.pending := by
    unfold State.withdrawPermit
    dsimp only
    repeat' split
    all_goals simp
  repeat' split
  · simp [State.grantPermit]
  · rfl
  · exact hwithdrawn

theorem takeoverRequest_pending : (takeoverRequest l b s).state.pending = s.pending := by
  have htaken : (s.takeRole l).state.pending = s.pending := by
    unfold State.takeRole
    repeat' split
    all_goals simp [Reply.waits]
  refine KeptByOperations.needSession (P := fun t => t.pending = s.pending) rfl fun _ => ?_
  split
  · rfl
  · refine KeptByOperations.needPayload (P := fun t => t.pending = s.pending) rfl fun _ _ => ?_
    split
    · rfl
    · exact htaken

theorem yieldRequest_pending : (yieldRequest l b s).state.pending = s.pending :=
  primaryRequest_pending fun _ => needIdleCommit_pending <| by
    dsimp only
    split <;> simp

theorem claimRequest_pending : (claimRequest l b s).state.pending = s.pending :=
  primaryRequest_pending fun _ => needRecord_pending fun _ => needOwner_pending <| by split <;> simp

theorem postRequest_pending : (postRequest l b s).state.pending = s.pending := by
  refine sessionRequest_pending fun p => ?_
  repeat' split
  all_goals simp [State.allocate]

theorem reassertRequest_pending : (reassertRequest l b s).state.pending = s.pending :=
  ownerRequest_pending fun _ _ => by split <;> simp

theorem findRequest_pending : (findRequest l b s).state.pending = s.pending :=
  sessionRequest_pending fun _ => by split <;> rfl

theorem readMapRequest_pending : (readMapRequest l b s).state.pending = s.pending := by
  refine KeptByOperations.needSession (P := fun t => t.pending = s.pending) rfl fun _ => ?_
  split
  · rfl
  · exact KeptByOperations.needPayload (P := fun t => t.pending = s.pending) rfl fun _ _ => rfl

theorem targetsRequest_pending (ev : RecordEvent) (visible : State → List SlotIx) :
    (targetsRequest ev visible l b s).state.pending = s.pending := by
  refine primaryRequest_pending fun _ => ?_
  repeat' split
  all_goals simp [State.deliverCounted]

theorem commitMapRequest_pending : (commitMapRequest l b s).state.pending = s.pending :=
  primaryRequest_pending fun _ => needIdleCommit_pending <| by split <;> rfl

theorem abortMapRequest_pending : (abortMapRequest l b s).state.pending = s.pending := by
  refine primaryRequest_pending fun _ => ?_
  change s.abortMap.pending = s.pending
  unfold State.abortMap
  split <;> simp

theorem lampTestRequest_pending : (lampTestRequest l b s).state.pending = s.pending := by
  refine KeptByOperations.needSession (P := fun t => t.pending = s.pending) rfl fun _ => ?_
  split
  · exact KeptByOperations.needPayload (P := fun t => t.pending = s.pending) rfl fun _ _ => by simp
  · rfl

theorem configureRequest_pending : (configureRequest l b s).state.pending = s.pending := by
  refine primaryRequest_pending fun p => ?_
  change (s.applyConfiguration p).pending = s.pending
  unfold State.applyConfiguration
  dsimp only
  split <;> simp [State.storeConfiguration]

theorem restartRequest_pending : (restartRequest l b s).state.pending = s.pending :=
  primaryRequest_pending fun _ => needIdleCommit_pending <| by simp [State.restartTable, State.emptyChanged]

end

/-! ### The commands -/

/-- What a request row does with the payload of its request (R184). -/
def requestBody : Instr → List Byte → State → Reply
  | .attach l => attachRequest l
  | .detachWithdrawAll l => detachRequest l
  | .detachLeave l => detachRequest l
  | .ping l => pingRequest l
  | .setAttention l => setAttentionRequest l
  | .collect l => collectRequest l
  | .permitGrant l => permitRequest l
  | .permitWithdraw l => permitRequest l
  | .takeover l => takeoverRequest l
  | .yieldRole l => yieldRequest l
  | .claimOrphan l => claimRequest l
  | .post l => postRequest l
  | .amend l => amendRequest l
  | .clear l => clearRequest l
  | .reassert l => reassertRequest l
  | .withdraw l => withdrawRequest l
  | .find l => findRequest l
  | .query l => queryRequest l
  | .listGroup l => listGroupRequest l
  | .panelStatus l => panelStatusRequest l
  | .readMap l => readMapRequest l
  | .acknowledgeHandles l => targetsRequest .ack State.visibleUnacknowledged l
  | .acknowledgeAllVisible l => targetsRequest .ack State.visibleUnacknowledged l
  | .remoteResetHandles l => targetsRequest .reset State.visibleAwaitingReset l
  | .remoteResetAllVisible l => targetsRequest .reset State.visibleAwaitingReset l
  | .silence l => silenceRequest l
  | .retire l => retireRequest l
  | .stageMap l => stageMapRequest l
  | .commitMap l => commitMapRequest l
  | .abortMap l => abortMapRequest l
  | .lampTest l => lampTestRequest l
  | .configure l => configureRequest l
  | .restart l => restartRequest l
  | _ => fun _ x => .refused x .unknownRequest

theorem exec_requestRow {c : Instr} {l : Link} {takes : Request → Bool} (h : requestRow c = some (l, takes))
    (s : State) : exec c s = takeRequest l s takes (requestBody c) := by
  cases c <;> cases h <;> rfl

theorem requestBody_pending (c : Instr) (b : List Byte) (x : State) : (requestBody c b x).state.pending = x.pending := by
  cases c with
  | attach l => exact attachRequest_pending l b x
  | detachWithdrawAll l => exact detachRequest_pending l b x
  | detachLeave l => exact detachRequest_pending l b x
  | ping l => exact sessionRequest_pending fun _ => rfl
  | setAttention l => exact sessionRequest_pending fun _ => rfl
  | collect l => exact collectRequest_pending l b x
  | permitGrant l => exact permitRequest_pending l b x
  | permitWithdraw l => exact permitRequest_pending l b x
  | takeover l => exact takeoverRequest_pending l b x
  | yieldRole l => exact yieldRequest_pending l b x
  | claimOrphan l => exact claimRequest_pending l b x
  | post l => exact postRequest_pending l b x
  | amend l => exact ownerRequest_pending fun _ _ => by simp
  | clear l => exact ownerRequest_pending fun _ _ => by simp
  | reassert l => exact reassertRequest_pending l b x
  | withdraw l => exact ownerRequest_pending fun _ _ => by simp
  | find l => exact findRequest_pending l b x
  | query l => exact sessionRequest_pending fun _ => needRecord_pending fun _ => rfl
  | listGroup l => exact sessionRequest_pending fun _ => rfl
  | panelStatus l => exact sessionRequest_pending fun _ => rfl
  | readMap l => exact readMapRequest_pending l b x
  | acknowledgeHandles l => exact targetsRequest_pending l b x ..
  | acknowledgeAllVisible l => exact targetsRequest_pending l b x ..
  | remoteResetHandles l => exact targetsRequest_pending l b x ..
  | remoteResetAllVisible l => exact targetsRequest_pending l b x ..
  | silence l => exact primaryRequest_pending fun _ => by simp
  | retire l => exact primaryRequest_pending fun _ => needRecord_pending fun _ => by simp
  | stageMap l => exact primaryRequest_pending fun _ => needIdleCommit_pending rfl
  | commitMap l => exact commitMapRequest_pending l b x
  | abortMap l => exact abortMapRequest_pending l b x
  | lampTest l => exact lampTestRequest_pending l b x
  | configure l => exact configureRequest_pending l b x
  | restart l => exact restartRequest_pending l b x
  | _ => rfl

theorem State.execute_pending (s : State) (l : Link) (row : Request → Bool) {body : List Byte → State → Reply}
    (h : ∀ b x, (body b x).state.pending = x.pending) : (s.execute l row body).pending = s.pending := by
  have hfinish (y : Reply) (r : Request) : (y.finish l r).pending = y.state.pending := by
    unfold Reply.finish
    split <;> simp
  unfold State.execute
  repeat' split
  · rfl
  · rw [hfinish, h]
  · rfl

/-- An event inside the part completes, and leaves the queue if its effect does. -/
theorem takeInside_pending (s : State) {f : State → State} (h : ∀ x, (f x).pending = x.pending) :
    ∃ t, takeInside s f = .next t ∧ t.pending = s.pending := by
  unfold takeInside
  split
  · exact ⟨_, rfl, rfl⟩
  · exact ⟨_, rfl, by simp [h]⟩

theorem takeOutside_pending (s : State) (dt : Nat) {f : State → State} (h : ∀ x, (f x).pending = x.pending) :
    ∃ t, takeOutside dt s f = .next t ∧ t.pending = s.pending :=
  takeInside_pending s fun x => h (x.after dt)

theorem exec_completes (c : Instr) (s : State) : ∃ t, exec c s = .next t ∧ t.pending = s.pending := by
  cases hrow : requestRow c with
  | some row =>
    rw [exec_requestRow (l := row.1) (takes := row.2) hrow]
    exact takeInside_pending s fun x => x.execute_pending _ _ (requestBody_pending c)
  | none =>
    cases c with
    | peek dt l kind bytes =>
      simp only [exec, execPeek]
      refine takeOutside_pending s dt fun x => ?_
      split
      · rfl
      · exact State.transact_pending ..
    | send dt l bytes =>
      simp only [exec, execSend]
      exact takeOutside_pending s dt fun x => State.transact_pending ..
    | fetch dt l bytes =>
      simp only [exec, execFetch]
      exact takeOutside_pending s dt fun x => State.transact_pending ..
    | linkReset dt l bytes =>
      simp only [exec, execLinkReset]
      exact takeOutside_pending s dt fun x => State.transact_pending ..
    | takeoverComplete => exact takeInside_pending s fun _ => rfl
    | ackKeyPress =>
      simp only [exec, execAckKeyPress]
      exact takeInside_pending s fun x => x.recognise_pending _ _ fun y =>
        (State.pressAction_pending (y.chordPress .reset) .ack).trans (y.chordPress_pending .reset)
    | silenceKeyPress =>
      simp only [exec, execSilenceKeyPress]
      exact takeInside_pending s fun x => x.recognise_pending _ _ fun y => y.pressAction_pending .silence
    | resetKeyPress =>
      simp only [exec, execResetKeyPress]
      exact takeInside_pending s fun x => x.recognise_pending _ _ fun y =>
        (State.pressAction_pending (y.chordPress .ack) .reset).trans (y.chordPress_pending .ack)
    | testKeyPress =>
      simp only [exec, execTestKeyPress]
      exact takeInside_pending s fun x => x.recognise_pending _ _ fun y => y.pressAction_pending .test
    | testKeyRelease =>
      simp only [exec, execTestKeyRelease]
      exact takeInside_pending s fun x => x.recognise_pending _ _ State.testReleaseAction_pending
    | ackKeyRelease =>
      simp only [exec, execAckKeyRelease]
      exact takeInside_pending s fun x => x.recognise_pending _ _ fun _ => rfl
    | resetKeyRelease =>
      simp only [exec, execResetKeyRelease]
      exact takeInside_pending s fun x => x.recognise_pending _ _ fun _ => rfl
    | silenceKeyRelease =>
      simp only [exec, execSilenceKeyRelease]
      exact takeInside_pending s fun x => x.recognise_pending _ _ fun _ => rfl
    | chordFire => exact takeInside_pending s State.fireChord_pending
    | tick =>
      simp only [exec, execTick]
      exact takeInside_pending s fun x => x.takeDueExpiries.countTick_pending.trans x.takeDueExpiries_pending
    | expire i =>
      simp only [exec, execExpire]
      exact takeInside_pending s fun x => by simp
    | keepaliveExpiry l =>
      simp only [exec, execKeepaliveExpiry]
      exact takeInside_pending s fun x => x.expireKeepalive_pending l
    | frameStart => exact takeInside_pending s State.startFrame_pending
    | commitCompletion =>
      simp only [exec, execCommitCompletion]
      refine takeInside_pending s fun x => ?_
      split
      · exact x.startFrame_pending
      · rfl
    | lampTestEnd => exact takeInside_pending s State.passTimedEnd_pending
    | supplySample mv =>
      simp only [exec, execSupplySample]
      exact takeInside_pending s fun x => x.takeSample_pending mv
    | hornPhaseEnd => exact takeInside_pending s State.endHornPhase_pending
    | deviceReset => exact ⟨_, rfl, rfl⟩
    | resetRelease =>
      simp only [exec, execResetRelease]
      split <;> exact ⟨_, rfl, rfl⟩
    | keyInputChange dt k c =>
      simp only [exec, execKeyInputChange]
      split
      · exact ⟨_, rfl, rfl⟩
      · exact takeOutside_pending s dt fun _ => rfl
    | _ => cases hrow

/-! ### Commands whose event has not arisen (assumption 2) -/

section
variable {s : State}

/-- No request of the row executes in the slot, or it waits for a commit. -/
theorem State.execute_unasked {l : Link} {row : Request → Bool} {body : List Byte → State → Reply}
    (h : ∀ r, (s.port l).slot = .executing r → row r = true → s.sessions.waiting = some l) :
    s.execute l row body = s := by
  unfold State.execute State.executing
  cases hslot : (s.port l).slot with
  | executing r => exact if_neg fun ⟨hrow, hwaits⟩ => hwaits (h r hslot hrow)
  | _ => rfl

theorem State.recognise_untimed {k : KeyId} {c : Contact} (act : State → State)
    (h : s.keys.timing.get k = none ∨ s.keys.debounced.get k = c) : s.recognise k c act = s := by
  unfold State.recognise
  split
  · rfl
  · next hbegan => rw [if_pos (h.resolve_left fun c => by rw [hbegan] at c; cases c)]

/-- A press or a release that is not being timed, or that the key's debounced state has already. -/
theorem takeInside_untimed (hready : s.ready) {k : KeyId} {c : Contact} (act : State → State)
    (h : s.keys.timing.get k = none ∨ s.keys.debounced.get k = c) :
    takeInside s (fun x => x.recognise k c act) = .next s :=
  (takeInside_ready hready _).trans (congrArg _ (State.recognise_untimed act h))

theorem State.expireSlot_undue {i : SlotIx} (h : ∀ q, s.record i = some q → q.expiryDue = false) :
    s.expireSlot i = s := by
  unfold State.expireSlot
  split
  · rfl
  · next q hq => rw [h q hq]; rfl

theorem State.fireChord_untimed (h : ∀ fires, s.keys.chord ≠ .timing fires) : s.fireChord = s := by
  unfold State.fireChord
  split
  · next hfires => exact absurd hfires (h _)
  · rfl
  · rfl

theorem State.passTimedEnd_untimed (h : s.panel.lamp.running = false ∨ s.panel.lamp.timedEnd = none) :
    s.passTimedEnd = s := by
  unfold State.passTimedEnd
  split
  · rfl
  · next hends =>
    rw [h.resolve_right fun c => by rw [hends] at c; cases c]
    rfl

end

/-- Settles O2: each command completes with the queue left, and each guard that is not met leaves its command without
effect. -/
theorem everyCommandCompletes : Obligations.EveryCommandCompletes := by
  refine ⟨exec_completes, fun c l takes s hrow hready hunasked => ?_, fun s hready => ?_⟩
  · rw [exec_requestRow hrow]
    exact (takeInside_ready hready _).trans (congrArg _ (State.execute_unasked hunasked))
  intro press release
  have idles {f : State → State} (h : f s = s) : takeInside s f = .next s :=
    (takeInside_ready hready f).trans (congrArg _ h)
  refine ⟨idles rfl, ?_, fun i h => ?_, fun l h => ?_, fun k h => ?_, fun k h => ?_, fun h => ?_, fun h => ?_, fun h => ?_,
    fun h => ?_⟩
  · change execResetRelease s = .next s
    rw [execResetRelease, hready.1]
    rfl
  · exact idles (f := fun x => x.expireSlot i) (State.expireSlot_undue h)
  · exact idles (f := fun x => x.expireKeepalive l) (if_neg (Bool.eq_false_iff.mp h))
  · cases k <;> exact takeInside_untimed hready _ h
  · cases k <;> exact takeInside_untimed hready _ h
  · exact idles (State.fireChord_untimed h)
  · exact idles (f := fun x => if x.endsCommit then x.startFrame else x) <| if_neg fun c => by
      obtain ⟨hframe, hpending⟩ := State.endsCommit_iff.mp c
      rcases h with h | h
      · exact h hframe
      · rw [hpending] at h
        cases h
  · exact idles (State.passTimedEnd_untimed h)
  · exact idles (f := State.endHornPhase) (if_pos h)

end Sys2Proof.Machine

/-! ## Sessions and roles stay consistent (R147, R159, R164): what leaves them alone

`RolesSound` reads each link's session state and keepalive, the four role fields, the ports and the map. `State.roleView` is
that part of a state. Most operations of the part leave it alone; the others follow in the next part. -/

namespace Sys2Proof.Machine

/-- What the session and role invariant reads of a state. -/
def State.roleView (s : State) : (Link → SessionState × Option Keepalive) × (Option Link × Option Link × Option Link ×
    Option Link) × PerLink Port × OutputMap :=
  (fun m => ((s.sessions.links.get m).state, (s.sessions.links.get m).keepalive),
    (s.sessions.primary, s.sessions.permit, s.sessions.waiting, s.sessions.takeoverDue), s.ports, s.map)

theorem State.roleView_eq_iff {s t : State} : t.roleView = s.roleView ↔
    (∀ m, (t.session m).state = (s.session m).state ∧ (t.session m).keepalive = (s.session m).keepalive) ∧
      s.sameRoles t ∧ t.ports = s.ports ∧ t.map = s.map := by
  simp [State.roleView, State.session, State.sameRoles, funext_iff]

/-- A block that the view does not read. -/
theorem State.roleView_of_blocks {s t : State} (hsessions : t.sessions = s.sessions) (hports : t.ports = s.ports)
    (hmap : t.map = s.map) : t.roleView = s.roleView := by
  simp [State.roleView, hsessions, hports, hmap]

/-! ### Single operations -/

section
variable (s : State) (l : Link)

/-- Notices, changed sets, mask and failover flag are not read. -/
theorem State.roleView_setSession {x : LinkSession} (hstate : x.state = (s.session l).state)
    (hkeepalive : x.keepalive = (s.session l).keepalive) : (s.setSession l x).roleView = s.roleView := by
  refine State.roleView_eq_iff.mpr ⟨fun m => ?_, ⟨rfl, rfl, rfl, rfl⟩, rfl, rfl⟩
  rw [State.session_setSession]
  split
  · next e => rw [e]; exact ⟨hstate, hkeepalive⟩
  · exact ⟨rfl, rfl⟩

@[simp] theorem State.roleView_setTime (x : TimeBase) : (s.setTime x).roleView = s.roleView := rfl
@[simp] theorem State.roleView_setTable (x : Table) : (s.setTable x).roleView = s.roleView := rfl
@[simp] theorem State.roleView_setPanel (x : PanelDriver) : (s.setPanel x).roleView = s.roleView := rfl
@[simp] theorem State.roleView_setKeys (x : KeyPort) : (s.setKeys x).roleView = s.roleView := rfl
@[simp] theorem State.roleView_setHorn (x : HornDriver) : (s.setHorn x).roleView = s.roleView := rfl
@[simp] theorem State.roleView_setSupply (x : SupplyMonitor) : (s.setSupply x).roleView = s.roleView := rfl
@[simp] theorem State.roleView_setLamp (x : Lamp) : (s.setLamp x).roleView = s.roleView := rfl
@[simp] theorem State.roleView_after (dt : Nat) : (s.after dt).roleView = s.roleView := rfl
@[simp] theorem State.roleView_reach (t : Nat) : (s.reach t).roleView = s.roleView := rfl
@[simp] theorem State.roleView_setRecord (i : SlotIx) (r : Record) : (s.setRecord i r).roleView = s.roleView := rfl
@[simp] theorem State.roleView_setOwner (i : SlotIx) (r : Record) (o : Option Link) :
    (s.setOwner i r o).roleView = s.roleView := rfl
@[simp] theorem State.roleView_joinChanged (i : SlotIx) : (s.joinChanged l i).roleView = s.roleView :=
  s.roleView_setSession l rfl rfl
@[simp] theorem State.roleView_leaveChanged (i : SlotIx) : (s.leaveChanged l i).roleView = s.roleView :=
  s.roleView_setSession l rfl rfl
@[simp] theorem State.roleView_emptyChanged : (s.emptyChanged l).roleView = s.roleView :=
  s.roleView_setSession l rfl rfl

@[simp] theorem State.roleView_notify (f : NoticeSet → NoticeSet) : (s.notify l f).roleView = s.roleView := by
  unfold State.notify
  split
  · exact s.roleView_setSession l rfl rfl
  · rfl

@[simp] theorem State.roleView_notifyPrimary (f : NoticeSet → NoticeSet) :
    (s.notifyPrimary f).roleView = s.roleView := by
  unfold State.notifyPrimary
  split
  · exact s.roleView_notify _ f
  · rfl

@[simp] theorem State.roleView_notifyBoth (f : NoticeSet → NoticeSet) : (s.notifyBoth f).roleView = s.roleView :=
  (State.roleView_notify _ .b f).trans (s.roleView_notify .a f)

@[simp] theorem State.roleView_redecideHorn : s.redecideHorn.roleView = s.roleView :=
  State.roleView_of_blocks (by simp) (by simp) (by simp)

@[simp] theorem State.roleView_composeFrame : s.composeFrame.roleView = s.roleView := rfl

@[simp] theorem State.roleView_examineFreeing (n : Nat) : (s.examineFreeing n).roleView = s.roleView :=
  State.roleView_of_blocks (by simp) (by simp) (by simp)

@[simp] theorem State.roleView_examineAllocation (n : Nat) : (s.examineAllocation n).roleView = s.roleView := by
  unfold State.examineAllocation
  split <;> simp

@[simp] theorem State.roleView_freeTombstones : (s.freeTombstones l).roleView = s.roleView :=
  State.roleView_of_blocks (by simp) (by simp) (by simp)

/-! ### Records -/

@[simp] theorem State.roleView_surface (before : State) (g : Group) : (before.surface s g).roleView = s.roleView :=
  State.roleView_of_blocks (by simp) (by simp) (by simp)

@[simp] theorem State.roleView_surfaceAll (before : State) : (before.surfaceAll s).roleView = s.roleView :=
  State.roleView_of_blocks (by simp) (by simp) (by simp)

@[simp] theorem State.roleView_silenceVisible : s.silenceVisible.roleView = s.roleView :=
  State.roleView_of_blocks (by simp) (by simp) (by simp)

@[simp] theorem State.roleView_retireFree (i : SlotIx) : (s.retireFree i).roleView = s.roleView := by
  unfold State.retireFree
  split
  · rfl
  · simp only [State.roleView_surface, State.roleView_examineFreeing, State.leaveBothChanged,
      State.roleView_leaveChanged]
    rfl

@[simp] theorem State.roleView_retireTombstone (i : SlotIx) (r : Record) (o : Link) (v : Reason) :
    (s.retireTombstone i r o v).roleView = s.roleView := by
  simp only [State.retireTombstone, State.roleView_surface, State.roleView_joinChanged]
  rfl

@[simp] theorem State.roleView_retire (c : Cause) (v : Reason) (i : SlotIx) : (s.retire c v i).roleView = s.roleView := by
  unfold State.retire
  repeat' split
  all_goals simp

/-- The record moved, the arrival order and the owner told. -/
theorem State.roleView_moved (ev : RecordEvent) (c : Cause) (i : SlotIx) (r : Record) (st : Annunciation) :
    (s.moved ev c i r st).roleView = s.roleView := by
  have harrival : ((s.setRecord i (r.moveTo ev st s.startIn)).noteArrival ev i).roleView = s.roleView :=
    State.roleView_of_blocks (by simp) (by simp) (by simp)
  unfold State.moved State.noteChange
  repeat' split
  all_goals simp [harrival]

@[simp] theorem State.roleView_deliver (ev : RecordEvent) (c : Cause) (i : SlotIx) :
    (s.deliver ev c i).roleView = s.roleView := by
  unfold State.deliver
  repeat' split
  · rfl
  · simp
  · exact (State.roleView_surface ..).trans (s.roleView_moved ..)
  · rfl
  · rfl

@[simp] theorem State.roleView_deliverAll (ev : RecordEvent) (c : Cause) (is : List SlotIx) :
    (s.deliverAll ev c is).roleView = s.roleView :=
  foldl_keeps _ State.roleView (fun _ _ => by simp) is s

@[simp] theorem State.roleView_purgeOrphans : s.purgeOrphans.roleView = s.roleView :=
  foldl_keeps _ State.roleView (fun _ _ => by simp) _ s

@[simp] theorem State.roleView_expireSlot (i : SlotIx) : (s.expireSlot i).roleView = s.roleView := by
  unfold State.expireSlot
  repeat' split
  all_goals simp

@[simp] theorem State.roleView_allocate (i : SlotIx) (r : Record) : (s.allocate i r).roleView = s.roleView := by
  simp only [State.allocate, State.roleView_examineAllocation, State.roleView_surface]
  rfl

@[simp] theorem State.roleView_collected : (s.collected l).roleView = s.roleView := by
  have hsessions : (s.collected l).sessions =
      (s.setSession l
        { s.session l with notices := .none, changed := (s.session l).changed.drop 8 }).sessions :=
    (s.collected_spec l).2.2.2
  rw [← s.roleView_setSession l
    (x := { s.session l with notices := .none, changed := (s.session l).changed.drop 8 }) rfl rfl]
  exact State.roleView_of_blocks hsessions (by simp [State.collected, State.freeReportedAll_frame])
    (by simp [State.collected, State.freeReportedAll_frame])

/-- Dealing with the records of a departing link touches the table and the changed sets alone. -/
theorem State.roleView_departRecords (all : Bool) : (s.departRecords l all).1.roleView = s.roleView := by
  unfold State.departRecords
  refine List.foldlRecOn (motive := fun acc : State × Tally => acc.1.roleView = s.roleView) _ _ rfl
    fun acc hacc i _ => ?_
  rw [← hacc]
  rcases departSlot_cases l all acc i with ⟨e, -⟩ | ⟨r, -, -, e | e | ⟨-, -, e⟩⟩ <;> rw [e] <;> simp

/-- After the role has passed, a departure tells the other link and re-decides the horn, which is not read. -/
theorem State.roleView_depart (all : Bool) (into : SessionState) (peer : PeerNotice) :
    (s.depart l all into peer).1.roleView = ((s.vacated l all into).rolePassed l).roleView := by
  have htold : (s.departedUndecided l all into peer).roleView = ((s.vacated l all into).rolePassed l).roleView := by
    unfold State.departedUndecided State.departureTold State.tellOrphans State.tellAdoption
    repeat' split
    all_goals simp
  rw [s.departedUndecided_redecided, State.roleView_redecideHorn, htold]

/-- What a departure leaves of the other link before the role passes. -/
theorem State.vacated_heir_view (all : Bool) (into : SessionState) :
    ((s.vacated l all into).session l.other).state = (s.session l.other).state ∧
      ((s.vacated l all into).session l.other).keepalive = (s.session l.other).keepalive := by
  have hview : (s.recordsDealt l all).1.roleView = (s.cancelRequest l).roleView := State.roleView_departRecords ..
  rw [(s.vacated_sessions l all into).2.1]
  exact (State.roleView_eq_iff.mp hview).1 l.other

theorem State.vacated_promotes_iff (all : Bool) (into : SessionState) : (s.vacated l all into).promotes l = true ↔
    s.sessions.primary = some l ∧ (s.session l.other).state = .standby ∧
      (((s.vacated l all into).session l.other).failover = true ∨ s.sessions.waiting = some l.other) := by
  rw [State.promotes_iff, (s.vacated_sessions l all into).2.2.1, (s.vacated_heir_view l all into).1, State.vacated_waits]

theorem State.rolePassed_map (all : Bool) (into : SessionState) : ((s.vacated l all into).rolePassed l).map =
    if s.sessions.primary = some l then { active := s.map.active, staged := s.map.active, commit := .idle } else s.map := by
  rw [← s.depart_map l all into .left]
  exact (State.roleView_eq_iff.mp (s.roleView_depart l all into .left)).2.2.2.symm

/-! ### Lamp test, keys and timers -/

@[simp] theorem State.roleView_endLamp : s.endLamp.roleView = s.roleView := by
  unfold State.endLamp
  split <;> simp

@[simp] theorem State.roleView_startLamp (t : Nat) (hold : Bool) : (s.startLamp t hold).roleView = s.roleView := by
  unfold State.startLamp
  split <;> simp

theorem State.roleView_recognise (key : KeyId) (c : Contact) {act : State → State}
    (hact : ∀ x, (act x).roleView = x.roleView) : (s.recognise key c act).roleView = s.roleView := by
  unfold State.recognise
  repeat' split
  · rfl
  · rfl
  · exact hact _

@[simp] theorem State.roleView_chordPress (key : KeyId) : (s.chordPress key).roleView = s.roleView := by
  unfold State.chordPress
  split <;> rfl

@[simp] theorem State.roleView_reportKey (key : KeyId) : (s.reportKey key).roleView = s.roleView :=
  s.roleView_notifyPrimary _

/-- What a press does, at every key (R104). -/
theorem State.roleView_pressAction (key : KeyId) : (s.pressAction key).roleView = s.roleView := by
  cases key with
  | ack =>
    change s.ackAction.roleView = s.roleView
    unfold State.ackAction
    repeat' split
    all_goals simp
  | silence =>
    change s.silenceAction.roleView = s.roleView
    unfold State.silenceAction
    split <;> simp
  | reset =>
    change s.resetAction.roleView = s.roleView
    unfold State.resetAction
    repeat' split
    all_goals simp
  | test =>
    change s.testAction.roleView = s.roleView
    unfold State.testAction
    repeat' split
    all_goals simp

theorem State.roleView_testReleaseAction : s.testReleaseAction.roleView = s.roleView := by
  unfold State.testReleaseAction
  dsimp only
  repeat' split
  all_goals simp

theorem State.roleView_fireChord : s.fireChord.roleView = s.roleView := by
  unfold State.fireChord
  split <;> simp

theorem State.roleView_advanceFrame : s.advanceFrame.roleView = s.roleView := by
  rw [State.advanceFrame_spec]
  rfl

theorem State.roleView_passTimedEnd : s.passTimedEnd.roleView = s.roleView := by
  unfold State.passTimedEnd
  repeat' split
  all_goals simp

theorem State.roleView_endHornPhase : s.endHornPhase.roleView = s.roleView := by
  unfold State.endHornPhase
  split <;> rfl

theorem State.roleView_takeSample (mv : Nat) : (s.takeSample mv).roleView = s.roleView := by
  simp only [State.takeSample, State.levelChanged]
  repeat' split
  all_goals simp

end

end Sys2Proof.Machine

/-! ## Sessions and roles stay consistent: the roles' own operations, and the commands (R147, R159, R164)

A TAKEOVER that waits or is due holds the permit, and so there is a primary; whatever clears the permit ends both. Between
commands a TAKEOVER may be due, but a command is taken with none due. A link whose TAKEOVER neither waits nor is due may be
answered: `RolesSoundFor`. -/

namespace Sys2Proof.Machine

theorem SessionState.inSession_iff {st : SessionState} : st.inSession = true ↔ st = .standby ∨ st = .primary := by
  cases st <;> simp [SessionState.inSession]

/-! ### Keepalives (R147, R151) -/

/-- A link in session has a keepalive that keeps to its interval. -/
def LinkSession.KeepaliveSound (x : LinkSession) : Prop :=
  x.state.inSession = true → ∃ k, x.keepalive = some k ∧ 1 ≤ k.interval ∧ k.interval ≤ 255 ∧ k.count ≤ k.interval ∧
    k.startIn ≤ 2

theorem LinkSession.KeepaliveSound.ticked {x : LinkSession} (h : x.KeepaliveSound) : x.tick.KeepaliveSound := by
  unfold LinkSession.tick
  split
  · next hin =>
    intro _
    obtain ⟨k, hk, hlow, hhigh, hcount, hstart⟩ := h hin
    refine ⟨k.tick, congrArg (Option.map Keepalive.tick) hk, ?_⟩
    unfold Keepalive.tick
    split
    · exact ⟨hlow, hhigh, hcount, by dsimp only; omega⟩
    · exact ⟨hlow, hhigh, by dsimp only; omega, hstart⟩
  · exact h

theorem LinkSession.tick_state (x : LinkSession) : x.tick.state = x.state := by
  unfold LinkSession.tick
  split <;> rfl

theorem State.restartedSession_state (s : State) (l : Link) : (s.restartedSession l).state = (s.session l).state := by
  unfold State.restartedSession
  split <;> rfl

theorem LinkSession.KeepaliveSound.restarted {s : State} {l : Link} (h : (s.session l).KeepaliveSound) :
    (s.restartedSession l).KeepaliveSound := by
  unfold State.restartedSession
  split
  · intro hin
    obtain ⟨k, hk, hlow, hhigh, -, -⟩ := h hin
    exact ⟨_, congrArg (Option.map _) hk, hlow, hhigh, le_rfl, s.startIn_bounds.2⟩
  · exact h

/-- A session in another state, or told something, of a link that was in session before. -/
theorem LinkSession.KeepaliveSound.restated {x y : LinkSession} (h : x.KeepaliveSound) (hin : x.state.inSession = true)
    (hkeepalive : y.keepalive = x.keepalive) : y.KeepaliveSound := fun _ => by
  rw [hkeepalive]
  exact h hin

namespace RolesSound

/-- With no claim to the role there is left of the invariant what it says of the primary and the keepalives. -/
theorem of_unclaimed {t : State} (hkeepalive : ∀ m, (t.session m).KeepaliveSound)
    (hprimary : ∀ m, (t.session m).state = .primary ↔ t.sessions.primary = some m) (hpermit : t.sessions.permit = none)
    (hwaiting : t.sessions.waiting = none) (hdue : t.sessions.takeoverDue = none)
    (hvacant : t.sessions.primary = none → t.map.commit = .idle ∧ t.map.staged = t.map.active) : RolesSound t where
  primary := hprimary
  permit l hl := by rw [hpermit] at hl; cases hl
  waiting l hl := by rw [hwaiting] at hl; cases hl
  due l hl := by rw [hdue] at hl; cases hl
  executing l hl := by
    rw [hwaiting, hdue] at hl
    rcases hl with hl | hl <;> cases hl
  vacant := hvacant
  keepalive := hkeepalive

/-! ### What the invariant says of the roles -/

section
variable {s t : State} (h : RolesSound s)
include h

theorem keepaliveSound (l : Link) : (s.session l).KeepaliveSound := h.keepalive l

/-- Whoever waits, is due or holds the permit does so under a primary. -/
theorem unclaimed (hpermit : s.sessions.permit = none) :
    s.sessions.waiting = none ∧ s.sessions.takeoverDue = none := by
  constructor <;> refine Option.eq_none_iff_forall_ne_some.mpr fun l hl => ?_
  · have hheld := (h.waiting l hl).1
    rw [hpermit] at hheld
    cases hheld
  · have hheld := (h.due l hl).1
    rw [hpermit] at hheld
    cases hheld

theorem permit_vacant (hp : s.sessions.primary = none) : s.sessions.permit = none :=
  Option.eq_none_iff_forall_ne_some.mpr fun l hl => by
    have hother := (h.permit l hl).2
    rw [hp] at hother
    cases hother

/-- The permit is the other link's, and so is a wait. -/
theorem permit_other {l m : Link} (hp : s.sessions.primary = some l) (hm : s.sessions.permit = some m) :
    m = l.other := by
  have hother := (h.permit m hm).2
  rw [hp] at hother
  rw [Option.some.inj hother, Link.other_other]

theorem waiting_other {l m : Link} (hp : s.sessions.primary = some l) (hm : s.sessions.waiting = some m) :
    m = l.other :=
  h.permit_other hp (h.waiting m hm).1

theorem waiting_idle (hidle : s.map.commit = .idle) : s.sessions.waiting = none :=
  Option.eq_none_iff_forall_ne_some.mpr fun l hl => by
    have hpending := (h.waiting l hl).2
    rw [hidle] at hpending
    cases hpending

/-- A link out of session is not the primary, and the other link has none to take the role from. -/
theorem out_of_session {l : Link} (hout : s.inSession l = false) :
    s.sessions.primary ≠ some l ∧ s.sessions.permit = none := by
  have hstate {st : SessionState} (hst : st.inSession = true) : (s.session l).state ≠ st := fun c => by
    rw [State.inSession, c, hst] at hout
    cases hout
  have hprimary : s.sessions.primary ≠ some l := fun c => hstate rfl ((h.primary l).mpr c)
  refine ⟨hprimary, Option.eq_none_iff_forall_ne_some.mpr fun m hm => ?_⟩
  obtain ⟨hstandby, hp⟩ := h.permit m hm
  rcases l.eq_or_other m with rfl | rfl
  · exact hstate rfl hstandby
  · exact hprimary (hp.trans (congrArg some l.other_other))

/-! ### Writes -/

theorem of_view (e : t.roleView = s.roleView) : RolesSound t := by
  obtain ⟨hsession, ⟨primary, permit, waiting, due⟩, hports, hmap⟩ := State.roleView_eq_iff.mp e
  refine ⟨fun l => ?_, fun l => ?_, fun l => ?_, fun l => ?_, fun l => ?_, ?_, fun l => ?_⟩
  · rw [(hsession l).1, primary]
    exact h.primary l
  · rw [(hsession l).1, primary, permit]
    exact h.permit l
  · rw [waiting, permit, hmap]
    exact h.waiting l
  · rw [due, permit, waiting]
    exact h.due l
  · rw [waiting, due, State.port_congr hports]
    exact h.executing l
  · rw [primary, hmap]
    exact h.vacant
  · rw [State.inSession, (hsession l).1, (hsession l).2]
    exact h.keepalive l

/-- The role given anew, with no claim to it left: no link enters a session by it. -/
theorem reassigned (hsession : ∀ m, t.inSession m = true →
      s.inSession m = true ∧ (t.session m).keepalive = (s.session m).keepalive)
    (hprimary : ∀ m, (t.session m).state = .primary ↔ t.sessions.primary = some m) (hpermit : t.sessions.permit = none)
    (hwaiting : t.sessions.waiting = none) (hdue : t.sessions.takeoverDue = none)
    (hvacant : t.sessions.primary = none → t.map.commit = .idle ∧ t.map.staged = t.map.active) : RolesSound t :=
  of_unclaimed (fun m hin => (h.keepaliveSound m).restated (hsession m hin).1 (hsession m hin).2 hin) hprimary hpermit
    hwaiting hdue hvacant

/-- A port written; a link that waits or is due executes still. -/
theorem setPort {l : Link} {p : Port}
    (hslot : s.sessions.waiting = some l ∨ s.sessions.takeoverDue = some l → p.slot.isExecuting = true) :
    RolesSound (s.setPort l p) where
  primary := h.primary
  permit := h.permit
  waiting := h.waiting
  due := h.due
  executing m hm := by
    rw [State.port_setPort]
    split
    · next e => exact hslot (e ▸ hm)
    · exact h.executing m hm
  vacant := h.vacant
  keepalive := h.keepalive

/-- A port written whose slot executes as before. -/
theorem setPort_executing {l : Link} {p : Port} (hslot : (s.port l).slot.isExecuting = true → p.slot.isExecuting = true) :
    RolesSound (s.setPort l p) :=
  h.setPort fun hm => hslot (h.executing l hm)

/-- A session written in its state, its keepalive sound. -/
theorem setSession {l : Link} {x : LinkSession} (hstate : x.state = (s.session l).state) (hx : x.KeepaliveSound) :
    RolesSound (s.setSession l x) := by
  have hsame (m : Link) : ((s.setSession l x).session m).state = (s.session m).state := by
    rw [State.session_setSession]
    split
    · next e => rw [e, hstate]
    · rfl
  refine ⟨fun m => ?_, fun m hm => ?_, h.waiting, h.due, h.executing, h.vacant, fun m => ?_⟩
  · rw [hsame]
    exact h.primary m
  · rw [hsame]
    exact h.permit m hm
  · change ((s.setSession l x).session m).KeepaliveSound
    rw [State.session_setSession]
    split
    · exact hx
    · exact h.keepaliveSound m

/-- The map written while there is a primary, and the commit not ended. -/
theorem setMap {l : Link} {m : OutputMap} (hp : s.sessions.primary = some l)
    (hpending : s.map.commit = .pending → m.commit = .pending) : RolesSound (s.setMap m) where
  primary := h.primary
  permit := h.permit
  waiting k hk := ⟨(h.waiting k hk).1, hpending (h.waiting k hk).2⟩
  due := h.due
  executing := h.executing
  vacant hnone := by
    rw [State.setMap_sessions, hp] at hnone
    cases hnone
  keepalive := h.keepalive

/-- A commit ended, after what `State.roleView` does not read: whoever waited is due (R76, R79, R164). -/
theorem ended {u : State} {m : OutputMap} (hpending : s.map.commit = .pending) (hdue : s.sessions.takeoverDue = none)
    (e : u.roleView = (s.setMap m).roleView) : RolesSound u.commitEnded := by
  obtain ⟨hsession, ⟨primary, permit, waiting, due⟩, hports, -⟩ := State.roleView_eq_iff.mp e
  rw [State.commitEnded_eq (due.trans hdue)]
  refine ⟨fun l => ?_, fun l hl => ?_, fun _ => nofun, fun l hl => ⟨?_, rfl⟩, fun l hl => ?_, fun hnone => ?_,
    fun l hl => ?_⟩
  · change (u.session l).state = .primary ↔ u.sessions.primary = some l
    rw [(hsession l).1, primary]
    exact h.primary l
  · change (u.session l).state = .standby ∧ u.sessions.primary = some l.other
    rw [(hsession l).1, primary]
    exact h.permit l (permit.symm.trans hl)
  · exact permit.trans (h.waiting l (waiting.symm.trans hl)).1
  · change (u.port l).slot.isExecuting = true
    rw [State.port_congr hports]
    exact h.executing l (.inl (waiting.symm.trans (hl.resolve_left nofun)))
  · have hidle := (h.vacant (primary.symm.trans hnone)).1
    rw [hpending] at hidle
    cases hidle
  · change (u.session l).state.inSession = true at hl
    change ∃ k, (u.session l).keepalive = some k ∧ _
    rw [(hsession l).1] at hl
    rw [(hsession l).2]
    exact h.keepalive l hl

/-! ### Roles (R159–R164) -/

/-- The swap of R163, for a standby that holds the permit. -/
theorem swapRoles {l : Link} (hpermit : s.sessions.permit = some l) (hwaiting : s.sessions.waiting = none)
    (hdue : s.sessions.takeoverDue = none) : RolesSound (s.swapRoles l) := by
  obtain ⟨hstandby, hprimary⟩ := h.permit l hpermit
  have hin : s.inSession l = true := by rw [State.inSession, hstandby]; rfl
  have hother : s.inSession l.other = true := by rw [State.inSession, (h.primary _).mpr hprimary]; rfl
  have hmine : (s.swapRoles l).session l = { s.session l with state := .primary } := by
    simp [State.swapRoles_spec, State.session]
  have hits : (s.swapRoles l).session l.other =
      { s.session l.other with
        state := .standby, notices := { (s.session l.other).notices with role := some .lost } } := by
    simp [State.swapRoles_spec, State.session]
  have hholder : (s.swapRoles l).sessions.primary = some l := by rw [State.swapRoles_spec]
  refine h.reassigned (fun m _ => ?_) (fun m => ?_) (by rw [State.swapRoles_spec]) (by rw [State.swapRoles_spec, hwaiting])
    (by rw [State.swapRoles_spec, hdue]) (fun c => by rw [hholder] at c; cases c)
  · rcases l.eq_or_other m with rfl | rfl
    · exact ⟨hin, by rw [hmine]⟩
    · exact ⟨hother, by rw [hits]⟩
  · rw [hholder]
    rcases l.eq_or_other m with rfl | rfl
    · simp [hmine]
    · simp [hits, l.ne_other]

/-- A due TAKEOVER completed: the swap, and the answer (R164). -/
theorem completeTakeover : RolesSound s.completeTakeover ∧ s.completeTakeover.sessions.takeoverDue = none := by
  unfold State.completeTakeover
  split
  · next hnone => exact ⟨h, hnone⟩
  · next l hl =>
    obtain ⟨hpermit, hwaiting⟩ := h.due l hl
    have hnone : RolesSound (s.setSessions { s.sessions with takeoverDue := none }) :=
      ⟨h.primary, h.permit, h.waiting, fun _ => nofun, fun m hm => h.executing m (hm.imp_right nofun), h.vacant,
        h.keepalive⟩
    have hswapped := hnone.swapRoles hpermit hwaiting rfl
    have hroles : ((s.setSessions { s.sessions with takeoverDue := none }).swapRoles l).sessions.waiting = none ∧
        ((s.setSessions { s.sessions with takeoverDue := none }).swapRoles l).sessions.takeoverDue = none := by
      rw [State.swapRoles_spec]
      exact ⟨hwaiting, rfl⟩
    obtain ⟨hwaits, hdue⟩ := hroles
    refine ⟨?_, by simpa using hdue⟩
    unfold State.answerExecuting
    split
    · exact hswapped.setPort fun hm => by
        rw [hwaits, hdue] at hm
        rcases hm with hm | hm <;> cases hm
    · exact hswapped

/-- A standby takes a vacant role (R163). -/
theorem takeVacant {l : Link} (hvacant : s.sessions.primary = none) (hin : s.inSession l = true) :
    RolesSound ((s.setSessionState l .primary).changePrimary (some l)) := by
  obtain ⟨hwaiting, hdue⟩ := h.unclaimed (h.permit_vacant hvacant)
  have hsession (m : Link) : ((s.setSessionState l .primary).changePrimary (some l)).session m =
      if m = l then { s.session l with state := .primary } else s.session m :=
    State.session_setSession ..
  refine h.reassigned (fun m hm => ?_) (fun m => ?_) rfl hwaiting hdue nofun
  · rw [hsession]
    rw [State.inSession, hsession] at hm
    rcases l.eq_or_other m with rfl | rfl
    · simpa using hin
    · simpa [l.other_ne, State.inSession] using hm
  · rw [hsession]
    rcases l.eq_or_other m with rfl | rfl
    · simp [State.changePrimary]
    · have hnot : (s.session l.other).state ≠ .primary := fun c => by
        rw [(h.primary _).mp c] at hvacant
        cases hvacant
      simp [State.changePrimary, l.other_ne, l.ne_other, hnot]

/-- The primary becomes STANDBY, and the role falls vacant (R161). -/
theorem yieldVacant {l : Link} (hp : s.sessions.primary = some l) (hidle : s.map.commit = .idle)
    (hdue : s.sessions.takeoverDue = none) : RolesSound ((s.setSessionState l .standby).changePrimary none) := by
  have hin : s.inSession l = true := by rw [State.inSession, (h.primary l).mpr hp]; rfl
  have hsession (m : Link) : ((s.setSessionState l .standby).changePrimary none).session m =
      if m = l then { s.session l with state := .standby } else s.session m :=
    State.session_setSession ..
  refine h.reassigned (fun m hm => ?_) (fun m => ?_) rfl (h.waiting_idle hidle) hdue fun _ => ⟨hidle, rfl⟩
  · rw [hsession]
    rw [State.inSession, hsession] at hm
    rcases l.eq_or_other m with rfl | rfl
    · simpa using hin
    · simpa [l.other_ne, State.inSession] using hm
  · rw [hsession]
    rcases l.eq_or_other m with rfl | rfl
    · simp [State.changePrimary]
    · have hnot : (s.session l.other).state ≠ .primary := fun c => by
        rw [(h.primary _).mp c] at hp
        exact l.other_ne (Option.some.inj hp)
      simp [State.changePrimary, l.other_ne, hnot]

/-- The primary becomes STANDBY, and a standby gains the role (R161). -/
theorem yieldTo {l : Link} (hp : s.sessions.primary = some l) (hidle : s.map.commit = .idle)
    (hdue : s.sessions.takeoverDue = none) (hheir : (s.session l.other).state = .standby) :
    RolesSound ((s.setSessionState l .standby).promote l.other) := by
  have hin : s.inSession l = true := by rw [State.inSession, (h.primary l).mpr hp]; rfl
  have hother : s.inSession l.other = true := by rw [State.inSession, hheir]; rfl
  obtain ⟨primary, permit, waiting, due⟩ := (s.setSessionState l .standby).promote_roles l.other
  have hmine : ((s.setSessionState l .standby).promote l.other).session l = { s.session l with state := .standby } := by
    rw [State.promote_session, if_neg l.ne_other]
    exact State.session_setSession_same ..
  have hits : ((s.setSessionState l .standby).promote l.other).session l.other =
      { s.session l.other with
        state := .primary, notices := { (s.session l.other).notices with role := some .gained } } := by
    rw [State.promote_session, if_pos rfl, State.setSessionState, State.session_setSession, if_neg l.other_ne]
  refine h.reassigned (fun m _ => ?_) (fun m => ?_) permit (waiting.trans (h.waiting_idle hidle)) (due.trans hdue)
    (fun c => by rw [primary] at c; cases c)
  · rcases l.eq_or_other m with rfl | rfl
    · exact ⟨hin, by rw [hmine]⟩
    · exact ⟨hother, by rw [hits]⟩
  · rw [primary]
    rcases l.eq_or_other m with rfl | rfl
    · simp [hmine, Link.other_ne]
    · simp [hits]

/-- The permit granted by the primary to a standby (R162). -/
theorem grantPermit {l : Link} (hp : s.sessions.primary = some l) (hdue : s.sessions.takeoverDue = none)
    (hstandby : (s.session l.other).state = .standby) : RolesSound (s.grantPermit l) := by
  have hgranted : RolesSound (s.setSessions { s.sessions with permit := some l.other }) := by
    refine ⟨h.primary, fun m hm => ?_, fun m hm => ⟨congrArg some (h.waiting_other hp hm).symm, (h.waiting m hm).2⟩,
      fun m hm => ?_, h.executing, h.vacant, h.keepalive⟩
    · obtain rfl : l.other = m := Option.some.inj hm
      exact ⟨hstandby, hp.trans (congrArg some l.other_other.symm)⟩
    · have hnone : none = some m := hdue.symm.trans hm
      cases hnone
  exact hgranted.of_view (State.roleView_notify ..)

/-- The permit withdrawn, and with it a wait (R162, R164). -/
theorem withdrawn (hdue : s.sessions.takeoverDue = none) {u : State} (hview : u.roleView =
      (s.setSessions { s.sessions with permit := none }).roleView)
    (ht : t.sessions = { u.sessions with waiting := none }) (hmap : t.map = u.map) : RolesSound t := by
  obtain ⟨hsame, ⟨primary, permit, -, due⟩, -, map⟩ := State.roleView_eq_iff.mp hview
  have hsession (m : Link) : t.session m = u.session m := by simp [State.session, ht]
  have hstate (m : Link) : (t.session m).state = (s.session m).state := by
    rw [hsession]
    exact (hsame m).1
  refine h.reassigned (fun m hin => ?_) (fun m => ?_) (by rw [ht]; exact permit) (by rw [ht])
    (by rw [ht]; exact due.trans hdue) ?_
  · rw [State.inSession, hstate] at hin
    refine ⟨hin, ?_⟩
    rw [hsession]
    exact (hsame m).2
  · rw [hstate, ht]
    change _ ↔ u.sessions.primary = some m
    rw [primary]
    exact h.primary m
  · rw [ht, hmap, map]
    change u.sessions.primary = none → _
    rw [primary]
    exact h.vacant

theorem withdrawPermit (hdue : s.sessions.takeoverDue = none) :
    RolesSound s.withdrawPermit ∧ s.withdrawPermit.sessions.permit = none := by
  unfold State.withdrawPermit
  split
  · next hnone => exact ⟨h, hnone⟩
  · next m hm =>
    have hview := (s.setSessions { s.sessions with permit := none }).roleView_notify m (.putPermit .withdrawn)
    obtain ⟨-, ⟨-, permit, waiting, -⟩, -, map⟩ := State.roleView_eq_iff.mp hview
    dsimp only
    generalize State.notify (s.setSessions { s.sessions with permit := none }) m (.putPermit .withdrawn) = u at *
    split
    · next hwaits =>
      obtain ⟨-, -, hsessions, -, hmap, -⟩ := (u.setSessions { u.sessions with waiting := none }).answerExecuting_frame
        m .denied
      exact ⟨h.withdrawn hdue hview hsessions hmap, by rw [hsessions]; exact permit⟩
    · next hnot =>
      have hnone : u.sessions.waiting = none := waiting.trans <| Option.eq_none_iff_forall_ne_some.mpr fun k hk => by
        have hheld := (h.waiting k hk).1
        rw [hm] at hheld
        exact hnot (hk.trans hheld.symm)
      have heta : u.sessions = { u.sessions with waiting := u.sessions.waiting } := rfl
      rw [hnone] at heta
      exact ⟨h.withdrawn hdue hview heta rfl, permit⟩

/-- A TAKEOVER begins to wait for a PENDING commit (R163). -/
theorem waits {l : Link} (hpermit : s.sessions.permit = some l) (hpending : s.map.commit = .pending)
    (hdue : s.sessions.takeoverDue = none) (hexecuting : (s.port l).slot.isExecuting = true) :
    RolesSound (s.setSessions { s.sessions with waiting := some l }) := by
  have hnoneDue {m : Link} : s.sessions.takeoverDue ≠ some m := by rw [hdue]; nofun
  refine ⟨h.primary, h.permit, fun m hm => ⟨hpermit.trans hm, hpending⟩, fun m hm => absurd hm hnoneDue, fun m hm => ?_,
    h.vacant, h.keepalive⟩
  obtain rfl : l = m := Option.some.inj (hm.resolve_right hnoneDue)
  exact hexecuting

/-- A session opened at an ATTACH, PRIMARY where the link wishes so and the role is vacant (R149, R150). -/
theorem openSession {l : Link} (hout : s.inSession l = false) {p : AttachPayload} (hlow : 1 ≤ p.interval)
    (hhigh : p.interval ≤ 255) : RolesSound (s.openSession l p) ∧ (s.openSession l p).sessions.permit = none := by
  obtain ⟨hnot, hpermit⟩ := h.out_of_session hout
  obtain ⟨hwaiting, hdue⟩ := h.unclaimed hpermit
  have hfresh : (p.session s).KeepaliveSound := fun _ => ⟨_, rfl, hlow, hhigh, le_rfl, s.startIn_bounds.2⟩
  have hopened (m : Link) : (s.setSession l (p.session s)).session m = if m = l then p.session s else s.session m :=
    State.session_setSession ..
  have hkeepalive (m : Link) : ((s.setSession l (p.session s)).session m).KeepaliveSound := by
    rw [hopened]
    split
    · exact hfresh
    · exact h.keepaliveSound m
  unfold State.openSession
  dsimp only
  split
  · next htakes =>
    have hvacant : s.sessions.primary = none := by
      simpa using (Bool.and_eq_true_iff.mp htakes).2
    refine ⟨of_unclaimed hkeepalive (fun m => ?_) rfl hwaiting hdue nofun, rfl⟩
    rw [State.changePrimary_session, hopened]
    split
    · next e => simp [AttachPayload.session, htakes, State.changePrimary, e]
    · next e =>
      have hnotPrimary : (s.session m).state ≠ .primary := fun c => by
        rw [(h.primary m).mp c] at hvacant
        cases hvacant
      exact iff_of_false hnotPrimary fun c => e (Option.some.inj c).symm
  · next htakes =>
    refine ⟨of_unclaimed hkeepalive (fun m => ?_) hpermit hwaiting hdue h.vacant, hpermit⟩
    rw [hopened]
    split
    · next e => exact iff_of_false (by simp [AttachPayload.session, htakes]) fun c => hnot (e ▸ c)
    · exact h.primary m

/-- A lost link's session forgotten at a LINK_RESET (R145). -/
theorem forgotten {l : Link} (hout : s.inSession l = false) : RolesSound (s.setSessionState l .offline) := by
  obtain ⟨hnot, hpermit⟩ := h.out_of_session hout
  obtain ⟨hwaiting, hdue⟩ := h.unclaimed hpermit
  have hsession (m : Link) : (s.setSessionState l .offline).session m =
      if m = l then { s.session l with state := .offline } else s.session m :=
    State.session_setSession ..
  refine h.reassigned (fun m hm => ?_) (fun m => ?_) hpermit hwaiting hdue h.vacant
  · rw [State.inSession, hsession] at hm
    rw [hsession]
    split at hm
    · cases hm
    · next e => exact ⟨hm, by rw [if_neg e]⟩
  · rw [hsession]
    split
    · next e => exact iff_of_false nofun fun c => hnot (e ▸ c)
    · exact h.primary m

/-! ### Departures (R154, R160) -/

section
variable {u : State} (hsessions : u.sessions = s.sessions) (l : Link) (all : Bool) (into : SessionState)
include hsessions

/-- No permit outlives a departure: it was held by the departing link, or given by it. -/
theorem rolePassed_permit : ((u.vacated l all into).rolePassed l).sessions.permit = none := by
  obtain ⟨-, -, vprimary, vpermit, -⟩ := u.vacated_sessions l all into
  rw [((u.vacated l all into).rolePassed_spec l).permit, vprimary, vpermit, hsessions]
  by_cases hp : s.sessions.primary = some l
  · rw [if_pos hp]
  · rw [if_neg hp]
    split
    · rfl
    · next hnot =>
      refine Option.eq_none_iff_forall_ne_some.mpr fun m hm => ?_
      rcases l.eq_or_other m with rfl | rfl
      · exact hnot hm
      · exact hp (by rw [(h.permit _ hm).2, Link.other_other])

/-- No wait outlives a departure: the departing link's is cancelled, and the other link's is answered with the role. -/
theorem rolePassed_waiting : ((u.vacated l all into).rolePassed l).sessions.waiting = none := by
  obtain ⟨-, -, -, -, vwaiting, -⟩ := u.vacated_sessions l all into
  rw [hsessions] at vwaiting
  have hpromotes := u.vacated_promotes_iff l all into
  rw [hsessions, State.session_congr hsessions] at hpromotes
  rw [((u.vacated l all into).rolePassed_spec l).waiting]
  split
  · rfl
  · next hnot =>
    rw [vwaiting]
    split
    · rfl
    · next hmine =>
      refine Option.eq_none_iff_forall_ne_some.mpr fun m hm => ?_
      rcases l.eq_or_other m with rfl | rfl
      · exact hmine hm
      · obtain ⟨hstandby, hp⟩ := h.permit _ (h.waiting _ hm).1
        rw [Link.other_other] at hp
        exact hnot ⟨hpromotes.mpr ⟨hp, hstandby, .inr hm⟩, by rw [vwaiting, if_neg hmine, hm]⟩

/-- The role has passed to the other link, or is vacant, and the map is as the primary's departure leaves it. -/
theorem rolePassed (hmap : u.map = s.map) (hdue : s.sessions.takeoverDue = none) (hinto : into.inSession = false) :
    RolesSound ((u.vacated l all into).rolePassed l) := by
  obtain ⟨hgone, -, vprimary, -, -, vdue⟩ := u.vacated_sessions l all into
  obtain ⟨hstate, hkeepalive⟩ := u.vacated_heir_view l all into
  obtain ⟨session, heir, primary, -, -, due, -, -⟩ := (u.vacated l all into).rolePassed_spec l
  have hpromotes := u.vacated_promotes_iff l all into
  have hpassedMap := u.rolePassed_map l all into
  have hpermit := h.rolePassed_permit hsessions l all into
  have hwaiting := h.rolePassed_waiting hsessions l all into
  rw [State.session_congr hsessions] at hstate hkeepalive hpromotes
  rw [hsessions] at vprimary vdue hpromotes hpassedMap
  rw [hmap] at hpassedMap
  generalize u.vacated l all into = v at *
  refine h.reassigned (fun m hm => ?_) (fun m => ?_) hpermit hwaiting (due.trans (vdue.trans hdue)) fun hvacant => ?_
  · rcases l.eq_or_other m with rfl | rfl
    · rw [State.inSession, session, hgone] at hm
      exact absurd hm (Bool.eq_false_iff.mp hinto)
    · rw [State.inSession, heir] at hm
      rw [heir, State.inSession, ← hstate]
      refine ⟨?_, hkeepalive⟩
      by_cases hp : v.promotes l = true
      · rw [hstate, (hpromotes.mp hp).2.1]
        rfl
      · rwa [if_neg hp] at hm
  · rw [primary, vprimary]
    rcases l.eq_or_other m with rfl | rfl
    · have hout : into ≠ .primary := fun c => by rw [c] at hinto; cases hinto
      rw [session, hgone]
      refine iff_of_false hout fun c => ?_
      split at c
      · exact m.other_ne (Option.some.inj c)
      · split at c
        · cases c
        · next hp => exact hp c
    · rw [heir, hstate]
      by_cases hp : v.promotes l = true
      · simp only [if_pos hp]
      · rw [if_neg hp, if_neg hp, h.primary]
        split
        · next hl => exact iff_of_false (fun c => l.ne_other (Option.some.inj (hl.symm.trans c))) nofun
        · rfl
  · rw [hpassedMap]
    split
    · exact ⟨rfl, rfl⟩
    · next hl =>
      rw [primary, vprimary, if_neg hl, if_neg fun c => hl (hpromotes.mp c).1] at hvacant
      exact h.vacant hvacant

end

/-- A departure leaves the invariant, and no claim to the role, from any state with the sessions and the map of one that
has it: it does not read the departing link's port. -/
theorem depart {u : State} (hsessions : u.sessions = s.sessions) (hmap : u.map = s.map)
    (hdue : s.sessions.takeoverDue = none) (l : Link) (all : Bool) {into : SessionState} (hinto : into.inSession = false)
    (peer : PeerNotice) :
    RolesSound (u.depart l all into peer).1 ∧ (u.depart l all into peer).1.sessions.permit = none := by
  have hview := u.roleView_depart l all into peer
  obtain ⟨-, ⟨-, permit, -, -⟩, -, -⟩ := State.roleView_eq_iff.mp hview
  exact ⟨(h.rolePassed hsessions l all into hmap hdue hinto).of_view hview,
    permit.trans (h.rolePassed_permit hsessions l all into)⟩

/-! ### Timers -/

theorem expireKeepalive (hdue : s.sessions.takeoverDue = none) (l : Link) :
    RolesSound (s.expireKeepalive l) ∧ (s.expireKeepalive l).sessions.takeoverDue = none := by
  unfold State.expireKeepalive
  split
  · obtain ⟨hdeparted, hpermit⟩ := h.depart rfl rfl hdue l false (into := .lost) rfl .lost
    exact ⟨hdeparted, (hdeparted.unclaimed hpermit).2⟩
  · exact ⟨h, hdue⟩

theorem takeDueExpiries (hdue : s.sessions.takeoverDue = none) : RolesSound s.takeDueExpiries := by
  have hview : (allSlots.foldl State.expireSlot s).roleView = s.roleView :=
    foldl_keeps _ State.roleView (fun _ _ => by simp) _ s
  have hslots : (allSlots.foldl State.expireSlot s).sessions.takeoverDue = none :=
    (State.roleView_eq_iff.mp hview).2.1.2.2.2.trans hdue
  obtain ⟨hfirst, hdueFirst⟩ := (h.of_view hview).expireKeepalive hslots .a
  exact (hfirst.expireKeepalive hdueFirst .b).1

/-- A tick counts keepalives down, and reads and writes nothing else of the sessions (R151). -/
theorem countTick : RolesSound s.countTick := by
  have hfirst := h.setSession (s.session .a).tick_state (h.keepaliveSound .a).ticked
  have hsecond := hfirst.setSession (l := .b) (s.session .b).tick_state (h.keepaliveSound .b).ticked
  exact hsecond.of_view rfl

/-- A commit completed: the groups are re-decided, the primary is told, and the commit has ended (R76). -/
theorem completeCommit (hpending : s.map.commit = .pending) (hdue : s.sessions.takeoverDue = none) :
    RolesSound s.completeCommit := by
  have hended : RolesSound s.committed :=
    h.ended (m := { s.map with active := s.map.staged, commit := .idle }) hpending hdue (by simp [State.copied])
  rw [State.completeCommit_eq]
  exact hended.of_view (State.roleView_redecideHorn _)

theorem startFrame (hdue : s.sessions.takeoverDue = none) : RolesSound s.startFrame := by
  by_cases hends : s.panel.frame = 63 ∧ s.map.commit = .pending
  · have hadvanced : RolesSound s.advanceFrame := h.of_view s.roleView_advanceFrame
    have hmap : s.advanceFrame.map = s.map := s.advanceFrame_map
    have hcompleted := hadvanced.completeCommit (by rw [hmap, hends.2]) (by rw [State.advanceFrame_spec]; exact hdue)
    rw [s.startFrame_spec.1 hends]
    exact hcompleted.of_view (State.roleView_composeFrame _)
  · rw [s.startFrame_spec.2 hends]
    exact h.of_view s.roleView_advanceFrame

/-! ### Link transactions (R131–R145) -/

theorem sendFrame (l : Link) (p : Port) (bytes : List Byte)
    (hslot : (s.port l).slot.isExecuting = true → p.slot.isExecuting = true) :
    RolesSound ((s.setPort l p).sendFrame l bytes) := by
  cases hframe : checkFrame bytes with
  | none =>
    rw [State.sendFrame_malformed s l p hframe]
    exact h.setPort_executing hslot
  | some r =>
    cases hbusy : p.slot.isExecuting with
    | true =>
      rw [State.sendFrame_dropped s l p hframe hbusy]
      exact h.setPort_executing hslot
    | false =>
      rw [State.sendFrame_taken s l p hframe hbusy]
      refine (h.setPort fun hm => ?_).setSession (s.restartedSession_state l) (h.keepaliveSound l).restarted
      rw [hslot (h.executing l hm)] at hbusy
      cases hbusy

/-- A LINK_RESET empties a slot whose link may wait for a commit, and ends the session with the wait (R144, R145). -/
theorem linkReset (hdue : s.sessions.takeoverDue = none) (l : Link) (p : Port) :
    RolesSound ((s.setPort l p).resetSession l) := by
  cases hin : s.inSession l with
  | true =>
    rw [State.resetSession_inSession (s := s.setPort l p) hin]
    exact (h.depart (u := s.setPort l p) rfl rfl hdue l false rfl .reset).1
  | false =>
    obtain ⟨hnot, hpermit⟩ := h.out_of_session hin
    obtain ⟨hwaiting, -⟩ := h.unclaimed hpermit
    have hwritten : RolesSound (s.setPort l p) := h.setPort fun hm => by
      rw [hwaiting, hdue] at hm
      rcases hm with hm | hm <;> cases hm
    unfold State.resetSession
    split
    · exact hwritten
    · exact hwritten.forgotten hin
    · next hst => rw [State.inSession, show (s.session l).state = .standby from hst] at hin; cases hin
    · next hst => rw [State.inSession, show (s.session l).state = .primary from hst] at hin; cases hin

theorem transact (hdue : s.sessions.takeoverDue = none) (l : Link) (kind : Byte) (bytes : List Byte) :
    RolesSound (s.transact l kind bytes) := by
  have hopened : RolesSound (s.openTransaction l bytes) := h.setPort_executing id
  unfold State.transact
  dsimp only
  split
  · exact hopened
  · exact hopened.setPort_executing id
  · rw [State.openTransaction_eq]
    exact h.sendFrame l _ bytes id
  · refine hopened.setPort_executing fun hexecuting => ?_
    obtain ⟨r, hr⟩ := ReqSlot.isExecuting_iff.mp hexecuting
    rw [Port.fetch, hr]
    rfl
  · exact hopened.linkReset hdue l _

end

end RolesSound

/-! ### A request and its answer -/

/-- The invariant, with no TAKEOVER of `l` that waits or is due: a request of `l` may be answered. -/
structure RolesSoundFor (l : Link) (s : State) : Prop where
  sound : RolesSound s
  waiting : s.sessions.waiting ≠ some l
  due : s.sessions.takeoverDue ≠ some l

namespace RolesSoundFor

section
variable {s t : State} {l : Link}

theorem finish {y : Reply} (r : Request) (hy : RolesSoundFor l y.state) : RolesSound (y.finish l r) := by
  unfold Reply.finish
  split
  · exact hy.sound.setPort fun hm => (hm.elim hy.waiting hy.due).elim
  · exact hy.sound

section
variable (h : RolesSoundFor l s)
include h

theorem of_view (e : t.roleView = s.roleView) : RolesSoundFor l t := by
  obtain ⟨-, ⟨-, -, waiting, due⟩, -, -⟩ := State.roleView_eq_iff.mp e
  exact ⟨h.sound.of_view e, waiting ▸ h.waiting, due ▸ h.due⟩

/-- A request behind the session check (R181 step 2). -/
theorem sessionRequest {α : Type} {p : Option α} {y : α → Reply}
    (hy : ∀ x, p = some x → RolesSoundFor l (y x).state) :
    RolesSoundFor l (needSession s l (needPayload s p y)).state :=
  KeptByOperations.needSession h fun _ => KeptByOperations.needPayload h hy

/-- A request of the primary (R181 step 3). -/
theorem primaryRequest {α : Type} {p : Option α} {y : α → Reply}
    (hy : ∀ x, s.sessions.primary = some l → RolesSoundFor l (y x).state) :
    RolesSoundFor l (needSession s l (needPrimary s l (needPayload s p y))).state := by
  refine KeptByOperations.needSession h fun _ => ?_
  unfold needPrimary
  split
  · next hp => exact KeptByOperations.needPayload h fun x _ => hy x (State.isPrimary_iff.mp hp)
  · exact h

/-- A request of a record's owner that leaves the roles alone. -/
theorem ownerRequest {α : Type} {p : Option α} {f : α → Handle} {y : α → Record → Reply} {o : Option Link}
    (hy : ∀ x r, (y x r).state.roleView = s.roleView) :
    RolesSoundFor l (needSession s l (needPayload s p fun x => needRecord s (f x) fun r =>
      needOwner s r o (y x r))).state :=
  h.sessionRequest fun x _ => KeptByOperations.needRecord h fun r _ => KeptByOperations.needOwner h fun _ =>
    h.of_view (hy x r)

theorem needIdleCommit {y : Reply} (hy : s.map.commit = .idle → RolesSoundFor l y.state) :
    RolesSoundFor l (Machine.needIdleCommit s y).state := by
  unfold Machine.needIdleCommit
  split
  · next hidle => exact hy hidle
  · exact h

/-! ### Requests that leave the roles alone -/

variable (b : List Byte)

theorem postRequest : RolesSoundFor l (postRequest l b s).state := by
  refine h.sessionRequest fun p _ => ?_
  repeat' split
  · exact h
  · exact h
  · exact h
  · exact h.of_view (by simp)

theorem claimRequest : RolesSoundFor l (claimRequest l b s).state := by
  refine h.primaryRequest fun _ _ => KeptByOperations.needRecord h fun r _ => KeptByOperations.needOwner h fun _ => ?_
  split
  · exact h
  · exact h.of_view rfl

theorem findRequest : RolesSoundFor l (findRequest l b s).state :=
  h.sessionRequest fun _ _ => by split <;> exact h

theorem readMapRequest : RolesSoundFor l (readMapRequest l b s).state := by
  refine KeptByOperations.needSession h fun _ => ?_
  split
  · exact h
  · exact KeptByOperations.needPayload h fun _ _ => h

theorem targetsRequest (ev : RecordEvent) (visible : State → List SlotIx) :
    RolesSoundFor l (targetsRequest ev visible l b s).state := by
  have hcounted (is : List SlotIx) : RolesSoundFor l (s.deliverCounted ev l is).state :=
    h.of_view (by simp [State.deliverCounted])
  refine h.primaryRequest fun targets _ => ?_
  repeat' split
  · exact hcounted _
  · exact h
  · exact hcounted _

theorem lampTestRequest : RolesSoundFor l (lampTestRequest l b s).state := by
  refine KeptByOperations.needSession h fun _ => ?_
  split
  · exact KeptByOperations.needPayload h fun _ _ => h.of_view (by simp)
  · exact h

theorem configureRequest : RolesSoundFor l (configureRequest l b s).state := by
  refine h.primaryRequest fun p _ => h.of_view ?_
  simp only [Reply.ok_state, State.applyConfiguration, State.roleView_redecideHorn]
  split <;> simp [State.storeConfiguration]

theorem restartRequest : RolesSoundFor l (restartRequest l b s).state :=
  h.primaryRequest fun _ _ => h.needIdleCommit fun _ => h.of_view (by simp [State.restartTable])

/-! ### Requests on the map (R72–R79) -/

theorem stageMapRequest : RolesSoundFor l (stageMapRequest l b s).state :=
  h.primaryRequest fun _ hp => h.needIdleCommit fun _ => ⟨h.sound.setMap hp id, h.waiting, h.due⟩

theorem commitMapRequest : RolesSoundFor l (commitMapRequest l b s).state := by
  refine h.primaryRequest fun _ hp => h.needIdleCommit fun _ => ?_
  split
  · exact h
  · exact ⟨h.sound.setMap hp fun _ => rfl, h.waiting, h.due⟩

theorem abortMapRequest (hdue : s.sessions.takeoverDue = none) : RolesSoundFor l (abortMapRequest l b s).state := by
  refine h.primaryRequest fun _ hp => ?_
  cases hcommit : s.map.commit with
  | idle =>
    simp only [Reply.ok_state, State.abortMap_idle hcommit]
    exact ⟨h.sound.setMap hp id, h.waiting, h.due⟩
  | pending =>
    have hended := h.sound.ended (m := { s.map with commit := .idle }) hcommit hdue rfl
    simp only [Reply.ok_state, State.abortMap, hcommit]
    rw [State.commitEnded_eq (s := s.setMap { s.map with commit := .idle }) hdue] at hended ⊢
    exact ⟨hended, nofun, h.waiting⟩

/-! ### Session and role requests (R149–R164) -/

omit h in
/-- No claim is left. -/
theorem of_unclaimed (ht : RolesSound t) (hpermit : t.sessions.permit = none) : RolesSoundFor l t := by
  obtain ⟨hwaiting, hdue⟩ := ht.unclaimed hpermit
  exact ⟨ht, by rw [hwaiting]; nofun, by rw [hdue]; nofun⟩

theorem attachRequest : RolesSoundFor l (attachRequest l b s).state := by
  refine KeptByOperations.needPayload h fun p hp => ?_
  obtain ⟨hlow, hhigh, -⟩ := parseAttach_eq_some.mp hp
  split
  · exact h
  · next hout =>
    obtain ⟨hopened, hpermit⟩ := h.sound.openSession (Bool.eq_false_iff.mpr hout) hlow hhigh
    exact (of_unclaimed hopened hpermit).of_view (State.roleView_notify ..)

theorem yieldRequest (hdue : s.sessions.takeoverDue = none) : RolesSoundFor l (yieldRequest l b s).state := by
  refine h.primaryRequest fun _ hp => h.needIdleCommit fun hidle => ?_
  dsimp only
  split
  · next hheir =>
    exact of_unclaimed (h.sound.yieldTo hp hidle hdue hheir) ((s.setSessionState l .standby).promote_roles l.other).2.1
  · exact of_unclaimed (h.sound.yieldVacant hp hidle hdue) rfl

variable (hdue : s.sessions.takeoverDue = none)
include hdue

theorem detachRequest : RolesSoundFor l (detachRequest l b s).state := by
  refine h.sessionRequest fun all _ => ?_
  obtain ⟨hdeparted, hpermit⟩ := h.sound.depart (u := s) rfl rfl hdue l all (into := .offline) rfl .left
  simpa only [Reply.ok_state] using of_unclaimed (l := l) hdeparted hpermit

theorem permitRequest : RolesSoundFor l (permitRequest l b s).state := by
  refine h.primaryRequest fun grant hp => ?_
  split
  · split
    · next hstandby =>
      have hroles := (s.setSessions { s.sessions with permit := some l.other }).notify_roles l.other (.putPermit .granted)
      obtain ⟨-, -, waiting, due⟩ := hroles
      exact ⟨h.sound.grantPermit hp hdue hstandby, fun c => h.waiting (waiting.symm.trans c),
        fun c => h.due (due.symm.trans c)⟩
    · exact h
  · obtain ⟨hwithdrawn, hpermit⟩ := h.sound.withdrawPermit hdue
    exact of_unclaimed hwithdrawn hpermit

/-- A TAKEOVER that passes its checks takes or swaps the role and is answered, or waits with its slot EXECUTING (R163). -/
theorem takeRole (hexecuting : (s.port l).slot.isExecuting = true) (hstandby : (s.session l).state = .standby)
    (hpermitted : s.takeoverDenied l = false) (r : Request) : RolesSound ((s.takeRole l).finish l r) := by
  have hpermit (hp : s.sessions.primary ≠ none) : s.sessions.permit = some l := by
    by_contra hnot
    rw [State.takeoverDenied_iff.mpr ⟨hstandby, hp, hnot⟩] at hpermitted
    cases hpermitted
  unfold State.takeRole
  split
  · next hvacant =>
    have hin : s.inSession l = true := by rw [State.inSession, hstandby]; rfl
    exact finish r (of_unclaimed (h.sound.takeVacant hvacant hin) rfl)
  · next hprimary =>
    have hheld := hpermit (by rw [hprimary]; nofun)
    split
    · next hidle =>
      refine finish r (of_unclaimed (h.sound.swapRoles hheld (h.sound.waiting_idle hidle) hdue) ?_)
      rw [Reply.ok_state, State.swapRoles_spec]
    · next hidle =>
      have hpending : s.map.commit = .pending := by
        cases hc : s.map.commit with
        | idle => exact absurd hc hidle
        | pending => rfl
      exact h.sound.waits hheld hpending hdue hexecuting

theorem takeoverRequest (hexecuting : (s.port l).slot.isExecuting = true) (r : Request) :
    RolesSound ((takeoverRequest l b s).finish l r) := by
  unfold Machine.takeoverRequest needSession
  split
  · next hin =>
    split
    · exact finish r h
    · next hpermitted =>
      cases parseEmpty b with
      | none => exact finish r h
      | some _ =>
        rw [needPayload_some]
        split
        · exact finish r h
        · next hnot =>
          have hstandby := (SessionState.inSession_iff.mp hin).resolve_right hnot
          exact h.takeRole hdue hexecuting hstandby (Bool.eq_false_iff.mpr hpermitted) r
  · exact finish r h

end

end

/-- Every row but TAKEOVER leaves its link answerable. -/
theorem requestBody {c : Instr} {takes : Request → Bool} (hrow : requestRow c = some (l, takes))
    (htakeover : c ≠ .takeover l) (h : RolesSoundFor l s) (hdue : s.sessions.takeoverDue = none) (b : List Byte) :
    RolesSoundFor l (Machine.requestBody c b s).state := by
  cases c <;> cases hrow
  case takeover => exact absurd rfl htakeover
  case unknownRequest => exact h
  case attach => exact h.attachRequest b
  case detachWithdrawAll | detachLeave => exact h.detachRequest b hdue
  case ping | listGroup | panelStatus => exact h.sessionRequest fun _ _ => h
  case setAttention => exact h.sessionRequest fun _ _ => h.of_view (s.roleView_setSession l rfl rfl)
  case collect => exact h.sessionRequest fun _ _ => h.of_view (s.roleView_collected l)
  case permitGrant | permitWithdraw => exact h.permitRequest b hdue
  case yieldRole => exact h.yieldRequest b hdue
  case claimOrphan => exact h.claimRequest b
  case post => exact h.postRequest b
  case amend | clear | withdraw => exact h.ownerRequest fun _ _ => by simp
  case reassert => exact h.ownerRequest fun _ _ => by split <;> simp
  case find => exact h.findRequest b
  case query => exact h.sessionRequest fun _ _ => KeptByOperations.needRecord h fun _ _ => h
  case readMap => exact h.readMapRequest b
  case acknowledgeHandles | acknowledgeAllVisible | remoteResetHandles | remoteResetAllVisible =>
    exact h.targetsRequest b ..
  case silence => exact h.primaryRequest fun _ _ => h.of_view (by simp)
  case retire => exact h.primaryRequest fun _ _ => KeptByOperations.needRecord h fun _ _ => h.of_view (by simp)
  case stageMap => exact h.stageMapRequest b
  case commitMap => exact h.commitMapRequest b
  case abortMap => exact h.abortMapRequest b hdue
  case lampTest => exact h.lampTestRequest b
  case configure => exact h.configureRequest b
  case restart => exact h.restartRequest b

end RolesSoundFor

/-! ### The commands -/

namespace RolesSound

section
variable {s t : State} (h : RolesSound s)
include h

/-- A command is taken with no TAKEOVER due (R164; assumption 6). -/
theorem takeInside {f : State → State} (e : takeInside s f = .next t)
    (hf : ∀ x, RolesSound x → x.sessions.takeoverDue = none → RolesSound (f x)) : RolesSound t := by
  unfold Machine.takeInside at e
  split at e <;> cases e
  · exact h
  · exact hf _ h.completeTakeover.1 h.completeTakeover.2

theorem takeOutside {dt : Nat} {f : State → State} (e : takeOutside dt s f = .next t)
    (hf : ∀ x, RolesSound x → x.sessions.takeoverDue = none → RolesSound (f x)) : RolesSound t :=
  h.takeInside e fun x hx => hf (x.after dt) (hx.of_view rfl)

/-- An event inside the part that leaves the roles alone. -/
theorem takeInside_quiet {f : State → State} (e : Machine.takeInside s f = .next t)
    (hf : ∀ x, (f x).roleView = x.roleView) : RolesSound t :=
  h.takeInside e fun x hx _ => hx.of_view (hf x)

/-- A request executes where its link does not wait already, and is answered after its effects (R138, R139). -/
theorem requestRow {c : Instr} {l : Link} {takes : Request → Bool} (hrow : requestRow c = some (l, takes))
    (e : exec c s = .next t) : RolesSound t := by
  rw [exec_requestRow hrow] at e
  refine h.takeInside e fun x hx hdue => ?_
  unfold State.execute
  split
  · exact hx
  · next r hr =>
    split
    · next hasked =>
      have hfor : RolesSoundFor l x := ⟨hx, hasked.2, by rw [hdue]; nofun⟩
      by_cases htakeover : c = .takeover l
      · have hslot : (x.port l).slot.isExecuting = true := by
          unfold State.executing at hr
          split at hr
          · next q hq => rw [hq]; rfl
          · cases hr
        subst htakeover
        exact hfor.takeoverRequest r.payload hdue hslot r
      · exact RolesSoundFor.finish r (RolesSoundFor.requestBody hrow htakeover hfor hdue r.payload)
    · exact hx

theorem exec {c : Instr} (e : exec c s = .next t) : RolesSound t := by
  cases hrow : Machine.requestRow c with
  | some row => exact h.requestRow (l := row.1) (takes := row.2) hrow e
  | none =>
    cases c with
    | peek dt l kind bytes =>
      simp only [Machine.exec, execPeek] at e
      refine h.takeOutside e fun x hx hdue => ?_
      split
      · exact hx
      · exact hx.transact hdue l _ bytes
    | send dt l bytes =>
      simp only [Machine.exec, execSend] at e
      exact h.takeOutside e fun _ hx hdue => hx.transact hdue l _ bytes
    | fetch dt l bytes =>
      simp only [Machine.exec, execFetch] at e
      exact h.takeOutside e fun _ hx hdue => hx.transact hdue l _ bytes
    | linkReset dt l bytes =>
      simp only [Machine.exec, execLinkReset] at e
      exact h.takeOutside e fun _ hx hdue => hx.transact hdue l _ bytes
    | takeoverComplete => exact h.takeInside_quiet e fun _ => rfl
    | ackKeyPress =>
      simp only [Machine.exec, execAckKeyPress] at e
      exact h.takeInside_quiet e fun x => x.roleView_recognise _ _ fun y =>
        (State.roleView_pressAction (y.chordPress .reset) .ack).trans (y.roleView_chordPress .reset)
    | silenceKeyPress =>
      simp only [Machine.exec, execSilenceKeyPress] at e
      exact h.takeInside_quiet e fun x => x.roleView_recognise _ _ fun y => y.roleView_pressAction .silence
    | resetKeyPress =>
      simp only [Machine.exec, execResetKeyPress] at e
      exact h.takeInside_quiet e fun x => x.roleView_recognise _ _ fun y =>
        (State.roleView_pressAction (y.chordPress .ack) .reset).trans (y.roleView_chordPress .ack)
    | testKeyPress =>
      simp only [Machine.exec, execTestKeyPress] at e
      exact h.takeInside_quiet e fun x => x.roleView_recognise _ _ fun y => y.roleView_pressAction .test
    | testKeyRelease =>
      simp only [Machine.exec, execTestKeyRelease] at e
      exact h.takeInside_quiet e fun x => x.roleView_recognise _ _ State.roleView_testReleaseAction
    | ackKeyRelease =>
      simp only [Machine.exec, execAckKeyRelease] at e
      exact h.takeInside_quiet e fun x => x.roleView_recognise _ _ fun _ => rfl
    | resetKeyRelease =>
      simp only [Machine.exec, execResetKeyRelease] at e
      exact h.takeInside_quiet e fun x => x.roleView_recognise _ _ fun _ => rfl
    | silenceKeyRelease =>
      simp only [Machine.exec, execSilenceKeyRelease] at e
      exact h.takeInside_quiet e fun x => x.roleView_recognise _ _ fun _ => rfl
    | chordFire => exact h.takeInside_quiet e State.roleView_fireChord
    | tick =>
      simp only [Machine.exec, execTick] at e
      exact h.takeInside e fun _ hx hdue => (hx.takeDueExpiries hdue).countTick
    | expire i =>
      simp only [Machine.exec, execExpire] at e
      exact h.takeInside_quiet e fun x => x.roleView_expireSlot i
    | keepaliveExpiry l =>
      simp only [Machine.exec, execKeepaliveExpiry] at e
      exact h.takeInside e fun _ hx hdue => (hx.expireKeepalive hdue l).1
    | frameStart =>
      simp only [Machine.exec, execFrameStart] at e
      exact h.takeInside e fun _ hx hdue => hx.startFrame hdue
    | commitCompletion =>
      simp only [Machine.exec, execCommitCompletion] at e
      refine h.takeInside e fun x hx hdue => ?_
      split
      · exact hx.startFrame hdue
      · exact hx
    | lampTestEnd => exact h.takeInside_quiet e State.roleView_passTimedEnd
    | supplySample mv =>
      simp only [Machine.exec, execSupplySample] at e
      exact h.takeInside_quiet e fun x => x.roleView_takeSample mv
    | hornPhaseEnd => exact h.takeInside_quiet e State.roleView_endHornPhase
    | deviceReset =>
      cases e
      exact rolesSound_reset.of_view rfl
    | resetRelease =>
      change execResetRelease s = .next t at e
      unfold execResetRelease at e
      split at e <;> cases e
      · exact h.of_view rfl
      · exact h
    | keyInputChange dt key c =>
      change execKeyInputChange dt key c s = .next t at e
      unfold execKeyInputChange at e
      split at e
      · cases e
        exact h.of_view rfl
      · exact h.takeOutside e fun _ hx _ => hx.of_view rfl
    | _ => cases hrow

end

end RolesSound

/-- Settles O53: a command keeps the invariant, its request row by `RolesSoundFor` and any other by the operations above;
taking it from the queue reads none of it. -/
theorem stepKeepsRoles : Obligations.StepKeepsRoles := by
  intro s t h e
  unfold step at e
  split at e
  · cases e
    exact h
  · next c rest _ => exact (h.of_view rfl : RolesSound (s.setPending rest)).exec e

end Sys2Proof.Machine

/-! ## Out of session (R148, R181 steps 1 and 2, R184) -/

namespace Sys2Proof.Machine

theorem hasCode_iff {c : Byte} {r : Request} : hasCode c r = true ↔ r.code = c := by
  simp [hasCode]

theorem namesNoRequest_iff {r : Request} : namesNoRequest r = true ↔ r.code ∉ requestCodes := by
  simp [namesNoRequest]

theorem isHandlesMode_iff {code : Byte} {r : Request} :
    isHandlesMode code r = true ↔ r.code = code ∧ r.payload.head? ≠ some 2#8 := by
  simp [isHandlesMode]

theorem isAllVisibleMode_iff {code : Byte} {r : Request} :
    isAllVisibleMode code r = true ↔ r.code = code ∧ r.payload.head? ≠ some 1#8 := by
  simp [isAllVisibleMode]

/-- Every row but UNKNOWN_REQUEST and ATTACH begins with the session check (R181 step 2). -/
theorem requestBody_noSession {c : Instr} {l : Link} {takes : Request → Bool} {s : State}
    (hrow : requestRow c = some (l, takes)) (hknown : c ≠ .unknownRequest l) (hattach : c ≠ .attach l)
    (hout : s.inSession l = false) (b : List Byte) : requestBody c b s = .refused s .noSession := by
  cases c <;> cases hrow
  case unknownRequest => exact absurd rfl hknown
  case attach => exact absurd rfl hattach
  all_goals exact needSession_fail hout _

/-- Settles O4: the codes and the rows read off their tests, and the two refusals off the rows' first check. -/
theorem outOfSessionRefused : Obligations.OutOfSessionRefused := by
  refine ⟨fun r => namesNoRequest_iff, fun c l takes r hrow => by
    cases c <;> cases hrow
    case unknownRequest => exact Iff.rfl
    case detachWithdrawAll => simp [isDetachWithdrawAll, codeDetach]
    case detachLeave => simp [isDetachLeave, codeDetach]
    case permitGrant => simp [isPermitGrant, codePermit]
    case permitWithdraw => simp [isPermitWithdraw, codePermit]
    case acknowledgeHandles | remoteResetHandles => exact isHandlesMode_iff
    case acknowledgeAllVisible | remoteResetAllVisible => exact isAllVisibleMode_iff
    all_goals exact hasCode_iff, fun c l takes s r hrow h ht => ⟨?_, ?_⟩⟩
  · rintro rfl
    cases hrow
    exact takeRequest_asks h ht fun _ x => .refused x .unknownRequest
  · intro hknown hattach hout
    rw [exec_requestRow hrow, takeRequest_asks h ht, requestBody_noSession hrow hknown hattach hout,
      Reply.refused_finish]

end Sys2Proof.Machine

/-! ## ATTACH, PING and SET_ATTENTION (R149, R150, R152, R172) -/

namespace Sys2Proof.Machine

/-- A notice writes one link's set, if that link is in session (R168). -/
theorem State.notify_eq (s : State) (l : Link) (f : NoticeSet → NoticeSet) :
    s.notify l f =
      { s with
        sessions :=
          { s.sessions with
            links := s.sessions.links.set l
              (if s.inSession l then { s.session l with notices := f (s.session l).notices } else s.session l) } } := by
  unfold State.notify
  split
  · rfl
  · exact (s.setSession_session l).symm

/-- The session an ATTACH opens, with the role and the staged map where it takes the role (R150). -/
theorem State.openSession_eq (s : State) (l : Link) (p : AttachPayload) :
    s.openSession l p =
      { s with
        sessions :=
          { s.sessions with
            links := s.sessions.links.set l (p.session s)
            primary := if p.takesRole s then some l else s.sessions.primary
            permit := if p.takesRole s then none else s.sessions.permit }
        map := if p.takesRole s then { s.map with staged := s.map.active } else s.map } := by
  unfold State.openSession
  cases p.takesRole s <;> rfl

/-- A well-formed ATTACH is refused in session, and opens a session out of it. -/
theorem exec_attach {l : Link} {s : State} {r : Request} {wish failover : Bool} {k : Byte} (h : s.asks l r)
    (hcode : r.code = 0x10#8) (hpayload : r.payload = [flagByte wish, k, flagByte failover]) (hk : k ≠ 0#8) :
    let p : AttachPayload := { wishPrimary := wish, interval := k.toNat, failover }
    exec (.attach l) s = .next ((if s.inSession l then Reply.refused s .wrongState
      else .ok ((s.openSession l p).notify l.other (.putPeer .joined))
        [(p.session s).state.code, attachFlags p l s]).finish l r) := by
  intro p
  have hparsed : parseAttach r.payload = some p := by
    have hpos : k.toNat ≠ 0 := fun e => hk (BitVec.eq_of_toNat_eq e)
    refine parseAttach_eq_some.mpr ⟨Nat.one_le_iff_ne_zero.mpr hpos, Nat.le_of_lt_succ k.isLt, ?_⟩
    rw [hpayload, byteOf_of_toNat]
  refine (takeRequest_asks h (hasCode_of_eq hcode) (attachRequest l)).trans ?_
  rw [attachRequest, hparsed, needPayload_some]

/-- The flags byte of the ATTACH response: STANDBY assigned against the wish, and RESUMED (R185). -/
theorem attachFlags_eq (p : AttachPayload) (l : Link) (s : State) :
    attachFlags p l s =
      (if (p.wishPrimary && !(p.wishPrimary && s.sessions.primary.isNone)) = true then 1#8 else 0#8) |||
        (if (s.session l).state = .lost then 2#8 else 0#8) := by
  have hstandby (b : Bool) : statusBit 0 b = if b = true then 1#8 else 0#8 := rfl
  have hresumed (b : Bool) : statusBit 1 b = if b = true then 2#8 else 0#8 := rfl
  simp only [attachFlags, hstandby, hresumed, AttachPayload.takesRole, beq_iff_eq]

/-- Settles O13: the refusal in session, and the opened session with PEER joined told to the other link. -/
theorem attachOpensSession : Obligations.AttachOpensSession := by
  refine ⟨fun l s r wish failover k h hrequest hpayload hk hin => ?_,
    fun l s r wish failover k h hrequest hpayload hk hout => ?_⟩
  · rw [exec_attach h hrequest hpayload hk, hin]
    rfl
  · intro primary opened peer told
    have hcode (b : Bool) :
        SessionState.code (if b = true then .primary else .standby) = if b = true then 2#8 else 1#8 := by
      cases b <;> rfl
    rw [exec_attach h hrequest hpayload hk, hout, if_neg Bool.false_ne_true, Reply.ok_finish, attachFlags_eq,
      AttachPayload.session, hcode, State.notify_eq, State.openSession_eq]
    cases l <;> rfl

theorem bytes16_injective {a b : Word16} (h : bytes16 a = bytes16 b) : a = b :=
  (word16_bytes a).symm.trans (word16_eq_iff.mpr h)

/-- Settles O15: both rows run behind the session check; a mask with a bit above the thirteen kinds does not parse. -/
theorem pingAndSetAttention : Obligations.PingAndSetAttention := by
  intro l s r h hin
  refine ⟨fun hcode hpayload => ?_, fun m hcode hpayload => ?_⟩
  · refine (takeRequest_session h (hasCode_of_eq hcode) hin (body := pingRequest l) rfl).trans ?_
    have hpermit : (s.sessions.permit == some l) = decide (s.sessions.permit = some l) := by
      rw [Bool.eq_iff_iff]
      simp
    rw [hpayload, hpermit]
    rfl
  · refine (takeRequest_session h (hasCode_of_eq hcode) hin (body := setAttentionRequest l) rfl).trans ?_
    split
    · next hmask =>
      rw [parseMask_eq_some.mpr ⟨hmask, hpayload⟩]
      rfl
    · next hmask =>
      have hnone : parseMask r.payload = none := Option.eq_none_iff_forall_ne_some.mpr fun x hx => by
        obtain ⟨hx, hbytes⟩ := parseMask_eq_some.mp hx
        exact hmask (bytes16_injective (hpayload.symm.trans hbytes) ▸ hx)
      rw [hnone]
      rfl

end Sys2Proof.Machine

/-! ## PERMIT, TAKEOVER, YIELD and CLAIM_ORPHAN (R158, R161–R164) -/

namespace Sys2Proof.Machine

/-! ### PERMIT (R162, R164) -/

/-- A notice to a link in session is written into its set (R168). -/
theorem State.notify_inSession_eq {s : State} {l : Link} (h : s.inSession l = true) (f : NoticeSet → NoticeSet) :
    s.notify l f =
      { s with
        sessions :=
          { s.sessions with
            links := s.sessions.links.set l { s.session l with notices := f (s.session l).notices } } } := by
  rw [State.notify_eq, if_pos h]

theorem State.inSession_of_standby {s : State} {l : Link} (h : (s.session l).state = .standby) :
    s.inSession l = true :=
  State.inSession_iff.mpr (.inl h)

theorem State.executing_of_slot {s : State} {l : Link} {r : Request} (h : (s.port l).slot = .executing r) :
    s.executing l = some r := by
  rw [State.executing, h]

/-- A PERMIT of the primary is run by the row of its mode. -/
theorem exec_permit {l : Link} {s : State} {r : Request} (h : s.asks l r) (hcode : r.code = 0x20#8)
    (hc : s.commands l) (grant : Bool) (hpayload : r.payload = [if grant then 1#8 else 2#8]) :
    exec (if grant then .permitGrant l else .permitWithdraw l) s = .next ((if grant then
        if (s.session l.other).state = .standby then Reply.ok (s.grantPermit l) [] else .refused s .wrongState
      else .ok s.withdrawPermit []).finish l r) := by
  have hbody : permitRequest l r.payload s = needSession s l (needPrimary s l (if grant then
        if (s.session l.other).state = .standby then Reply.ok (s.grantPermit l) [] else .refused s .wrongState
      else .ok s.withdrawPermit [])) := by
    rw [permitRequest, parsePermit_eq_some.mpr hpayload, needPayload_some]
  cases grant with
  | true => exact takeRequest_primary h (by simp [isPermitGrant, codePermit, hcode, hpayload]) hc.1 hc.2 hbody
  | false => exact takeRequest_primary h (by simp [isPermitWithdraw, codePermit, hcode, hpayload]) hc.1 hc.2 hbody

/-- The permit's holder is in session: a standby (R159). -/
theorem RolesSound.permit_inSession {s : State} {l : Link} (hs : RolesSound s) (h : s.sessions.permit = some l) :
    s.inSession l = true :=
  State.inSession_of_standby (hs.permit l h).1

/-- The permit cleared, and its holder told (R162). -/
def State.permitWithdrawn (s : State) (h : Link) : State :=
  { s with
    sessions :=
      { s.sessions with
        links := s.sessions.links.set h
          { s.session h with notices := { (s.session h).notices with permit := some .withdrawn } }
        permit := none } }

theorem State.withdrawPermit_held {s : State} {l : Link} (hs : RolesSound s) (h : s.sessions.permit = some l) :
    s.withdrawPermit =
      if s.sessions.waiting = some l then
        ((s.permitWithdrawn l).setSessions { (s.permitWithdrawn l).sessions with waiting := none }).answerExecuting l
          .denied
      else s.permitWithdrawn l := by
  have htold :
      (s.setSessions { s.sessions with permit := none }).notify l (.putPermit .withdrawn) = s.permitWithdrawn l := by
    rw [State.notify_inSession_eq]
    · rfl
    · exact hs.permit_inSession h
  rw [State.withdrawPermit, h]
  simp only [htold]

/-- No TAKEOVER waits: the withdraw ends with the notice. -/
theorem State.withdrawPermit_idle {s : State} {l : Link} (hs : RolesSound s) (h : s.sessions.permit = some l)
    (hwait : s.sessions.waiting ≠ some l) : s.withdrawPermit = s.permitWithdrawn l := by
  rw [State.withdrawPermit_held hs h, if_neg hwait]

/-- A TAKEOVER that waits on the permit is answered DENIED in its slot. -/
theorem State.withdrawPermit_waiting {s : State} {l : Link} {q : Request} (hs : RolesSound s)
    (hwait : s.sessions.waiting = some l) (hslot : (s.port l).slot = .executing q) :
    s.withdrawPermit =
      { s.permitWithdrawn l with
        ports := s.portsAnswering l q .denied []
        sessions := { (s.permitWithdrawn l).sessions with waiting := none } } := by
  have hexecuting : ((s.permitWithdrawn l).setSessions
      { (s.permitWithdrawn l).sessions with waiting := none }).executing l = some q :=
    State.executing_of_slot hslot
  rw [State.withdrawPermit_held hs (hs.waiting l hwait).1, if_pos hwait,
    (State.answerExecuting_spec _ l .denied).1 q hexecuting]
  rfl

/-- Settles O17: the grant, its refusal, and the withdraw of none, of a held and of a waited-on permit. -/
theorem permitGrantsAndWithdraws : Obligations.PermitGrantsAndWithdraws := by
  intro l s r h hcode hc hs o told
  refine ⟨fun hpayload hstandby => ?_, fun hpayload hnot => ?_, fun hpayload hnone => ?_,
    fun hpayload hpermit hwait => ?_, fun q hpayload hwait hslot => ?_⟩
  · refine (exec_permit h hcode hc true hpayload).trans ?_
    rw [if_pos rfl, if_pos hstandby, State.grantPermit, State.notify_inSession_eq]
    · rfl
    · exact State.inSession_of_standby hstandby
  · refine (exec_permit h hcode hc true hpayload).trans ?_
    rw [if_pos rfl, if_neg hnot, Reply.refused_finish]
  · refine (exec_permit h hcode hc false hpayload).trans ?_
    rw [if_neg Bool.false_ne_true, State.withdrawPermit, hnone]
    rfl
  · refine (exec_permit h hcode hc false hpayload).trans ?_
    rw [if_neg Bool.false_ne_true, State.withdrawPermit_idle hs hpermit (hwait ▸ nofun)]
    rfl
  · refine (exec_permit h hcode hc false hpayload).trans ?_
    rw [if_neg Bool.false_ne_true, State.withdrawPermit_waiting hs hwait hslot]
    cases l <;> rfl

/-! ### TAKEOVER (R163, R164) -/

/-- A TAKEOVER that is not denied: the state check, and the role taken. -/
theorem exec_takeover {l : Link} {s : State} {r : Request} (h : s.asks l r) (hcode : r.code = 0x21#8)
    (hpayload : r.payload = []) (hin : s.inSession l = true) (hpermitted : ¬s.takeoverDenied l = true) :
    exec (.takeover l) s = .next ((if (s.session l).state = .primary then Reply.refused s .wrongState
      else s.takeRole l).finish l r) := by
  refine (takeRequest_session h (hasCode_of_eq hcode) hin (body := takeoverRequest l) rfl).trans ?_
  rw [if_neg hpermitted, hpayload]
  rfl

/-- Settles O18: the branches of `State.takeRole`, and the refusal of a PRIMARY caller. -/
theorem takeoverTakesRole : Obligations.TakeoverTakesRole := by
  intro l s r h hcode hpayload o mine
  have hrun (hstandby : (s.session l).state = .standby)
      (hfree : s.sessions.primary = none ∨ s.sessions.permit = some l) :
      exec (.takeover l) s = .next ((s.takeRole l).finish l r) := by
    rw [exec_takeover h hcode hpayload (State.inSession_of_standby hstandby), if_neg (by rw [hstandby]; nofun)]
    intro hdenied
    obtain ⟨-, hprimary, hpermit⟩ := State.takeoverDenied_iff.mp hdenied
    exact hfree.elim hprimary hpermit
  refine ⟨fun hstandby hvacant => ?_, fun hstandby hprimary hpermit hidle => ?_,
    fun hstandby hprimary hpermit hpending => ?_, fun hprimary => ?_⟩
  · rw [hrun hstandby (.inl hvacant), State.takeRole, hvacant]
    rfl
  · rw [hrun hstandby (.inr hpermit), State.takeRole, hprimary]
    simp only
    rw [if_pos hidle, Reply.ok_finish, State.swapRoles_spec]
    rfl
  · rw [hrun hstandby (.inr hpermit), State.takeRole, hprimary]
    simp only
    rw [if_neg (by rw [hpending]; nofun), Reply.waits_finish]
    rfl
  · rw [exec_takeover h hcode hpayload (State.inSession_iff.mpr (.inr hprimary)), if_pos hprimary,
      Reply.refused_finish]
    rw [State.takeoverDenied_iff, hprimary]
    rintro ⟨h, -⟩
    cases h

/-! ### YIELD (R159, R161) -/

/-- Settles O20: the role handed over to a standby, or left vacant. -/
theorem yieldHandsOver : Obligations.YieldHandsOver := by
  intro l s r h hcode hpayload hc hidle o yielded
  have hrun : exec (.yieldRole l) s = .next ((if (s.session o).state = .standby then
      Reply.ok ((s.setSessionState l .standby).promote o) [1#8]
      else .ok ((s.setSessionState l .standby).changePrimary none) [2#8]).finish l r) := by
    refine (takeRequest_primary h (hasCode_of_eq hcode) hc.1 hc.2 (body := yieldRequest l) rfl).trans ?_
    rw [hpayload]
    exact congrArg (fun y => Host.Outcome.next (Reply.finish y l r)) (needIdleCommit_pass hidle _)
  refine ⟨fun hstandby => ?_, fun hnot => ?_⟩
  · rw [hrun, if_pos hstandby]
    cases l <;> rfl
  · rw [hrun, if_neg hnot]
    rfl

/-! ### CLAIM_ORPHAN (R158) -/

/-- A key that a link holds live (R158). -/
theorem Table.findKey_isSome {t : Table} {l : Link} {k : Word16} :
    (t.findKey l k).isSome = true ↔ ∃ j p, t.record j = some p ∧ p.owner = some l ∧ p.key = k := by
  rw [Option.isSome_iff_ne_none, ne_eq, Table.findKey_eq_none]
  simp

/-- Settles O21: the owner check, the key check, and the record under its new owner and key. -/
theorem claimOrphanTakesOwnership : Obligations.ClaimOrphanTakesOwnership := by
  intro l s r i g k q h hcode hpayload hk hc hresolve
  have hrun : exec (.claimOrphan l) s = .next ((needOwner s q none (if (s.table.findKey l k).isSome then
      .refused s .duplicateKey
      else .ok (s.setRecord i { q with owner := some l, key := k }) (handleBytes i g))).finish l r) := by
    refine (takeRequest_primary h (hasCode_of_eq hcode) hc.1 hc.2 (body := claimRequest l) rfl).trans ?_
    have hparsed : parseClaim r.payload = some { handle := { slot := i, gen := g }, key := k } :=
      parseClaim_eq_some.mpr ⟨hk, hpayload⟩
    rw [hparsed, needPayload_some, needRecord_pass hresolve]
  refine ⟨fun howned => ?_, fun horphan hheld => ?_, fun horphan hfree => ?_⟩
  · rw [hrun, needOwner_fail howned, Reply.refused_finish]
  · rw [hrun, needOwner_pass horphan, if_pos, Reply.refused_finish]
    exact Table.findKey_isSome.mpr hheld
  · rw [hrun, needOwner_pass horphan, if_neg, Reply.ok_finish]
    · rfl
    · rw [Table.findKey_eq_none.mpr hfree]
      exact nofun

end Sys2Proof.Machine

/-! ## A TAKEOVER whose commit has ended (R164) -/

namespace Sys2Proof.Machine

/-- A TAKEOVER that has been completed: the swap of R163, answered OK. -/
def State.takeoverCompleted (s : State) (l : Link) (r : Request) : State :=
  { s with
    ports := s.portsAnswering l r .ok []
    sessions :=
      { s.sessions with
        links := (s.sessions.links.set l { s.session l with state := .primary }).set l.other
          { s.session l.other with
            state := .standby, notices := { (s.session l.other).notices with role := some .lost } }
        primary := some l, permit := none, takeoverDue := none }
    map := { s.map with staged := s.map.active } }

theorem State.completeTakeover_due {s : State} {l : Link} {r : Request} (hdue : s.sessions.takeoverDue = some l)
    (hslot : (s.port l).slot = .executing r) : s.completeTakeover = s.takeoverCompleted l r := by
  rw [State.completeTakeover, hdue]
  simp only
  rw [State.swapRoles_spec, (State.answerExecuting_spec _ l .ok).1 r]
  · rfl
  · exact State.executing_of_slot hslot

/-- Every command but reset and its release acts on a running part once its due TAKEOVER is completed (R164; assumption
6). -/
theorem exec_eq_of_completeTakeover {c : Instr} {s u : State} (hreset : c ≠ .deviceReset)
    (hrelease : c ≠ .resetRelease) (hs : s.held = false) (hu : u.held = false)
    (h : s.completeTakeover = u.completeTakeover) : exec c s = exec c u := by
  have hs : ¬s.held = true := Bool.eq_false_iff.mp hs
  have hu : ¬u.held = true := Bool.eq_false_iff.mp hu
  cases c
  case deviceReset => exact absurd rfl hreset
  case resetRelease => exact absurd rfl hrelease
  case keyInputChange dt k x =>
    have houtside (f : State → State) : takeOutside dt s f = takeOutside dt u f :=
      (if_neg hs).trans (.trans (by rw [h]) (if_neg hu).symm)
    exact (if_neg hs).trans (.trans (houtside _) (if_neg hu).symm)
  all_goals exact (if_neg hs).trans (.trans (by rw [h]) (if_neg hu).symm)

/-- Settles O19: every command but reset and its release takes its event behind the completion. -/
theorem dueTakeoverCompletes : Obligations.DueTakeoverCompletes := by
  intro l s r hheld hdue hslot o swapped
  have hdone : s.completeTakeover = swapped := State.completeTakeover_due hdue hslot
  have hrun : ¬s.held = true := Bool.eq_false_iff.mp hheld
  exact ⟨(if_neg hrun).trans (congrArg _ hdone), fun c hreset hrelease =>
    exec_eq_of_completeTakeover hreset hrelease hheld hheld hdone⟩

end Sys2Proof.Machine

/-! ## DETACH (R153–R157) -/

namespace Sys2Proof.Machine

/-- A departure is not undone by an answer to the link that has departed. -/
theorem Departed.answer {s t : State} {l : Link} {all : Bool} {into : SessionState} {peer : PeerNotice}
    (h : Departed s t l all into peer) (r : Request) (v : Result) (payload : List Byte) :
    Departed s (t.answer l r v payload) l all into peer where
  slots := h.slots
  arrival := h.arrival
  low := h.low
  gone := h.gone
  heir := h.heir
  changed := h.changed
  primary := h.primary
  permit := h.permit
  waiting := h.waiting
  due := h.due
  map := h.map
  heirPort := (PerLink.get_set_other ..).trans h.heirPort
  horn := h.horn
  rest := h.rest

theorem Reply.finish_ok (t : State) (payload : List Byte) (l : Link) (r : Request) :
    (Reply.ok t payload).finish l r = t.answer l r .ok payload := rfl

/-- The answer of a link whose departure has emptied its slot stands where it would have stood (R138, R154). -/
theorem State.answer_port_of_emptied {s t : State} {l : Link} (h : t.port l = { s.port l with slot := .empty })
    (r : Request) (v : Result) (payload : List Byte) :
    (t.answer l r v payload).port l = (s.portsAnswering l r v payload).get l := by
  simp [State.answer, State.portsAnswering, h]

theorem State.depart_snd (s : State) (l : Link) (all : Bool) (into : SessionState) (peer : PeerNotice) :
    (s.depart l all into peer).2 = (s.recordsDealt l all).2 := by
  rw [State.depart, State.recordsDealt]

theorem State.depart_tally {s : State} (hs : OwnershipSound s) (l : Link) (all : Bool) (into : SessionState)
    (peer : PeerNotice) : (s.depart l all into peer).2 = s.tallied l all allSlots :=
  (s.depart_snd l all into peer).trans (State.recordsDealt_spec hs l all).2

/-- The answer of a DETACH: the link departed, and the count of its records freed, kept and adopted (R153). -/
def State.detached (s : State) (l : Link) (all : Bool) : Reply :=
  .ok (s.depart l all .offline .left).1
    [byteOf (s.tallied l all allSlots).freed, byteOf (s.tallied l all allSlots).kept,
     byteOf (s.tallied l all allSlots).adopted]

theorem State.detached_finish (s : State) (l : Link) (all : Bool) (r : Request) :
    (s.detached l all).finish l r =
      (s.depart l all .offline .left).1.answer l r .ok
        [byteOf (s.ownedSlots l fun q => all || q.policy == .drop).length,
         byteOf (s.ownedSlots l fun q => !all && q.policy != .drop && !s.adopts l q).length,
         byteOf (s.ownedSlots l fun q => !all && q.policy != .drop && s.adopts l q).length] := by
  have howned (f : Record → Bool) : s.ownedAmong l allSlots f = s.ownedSlots l f := rfl
  simp only [State.detached, State.tallied, howned, Reply.finish_ok]

/-- A DETACH is run by the row of its mode. -/
theorem exec_detach {l : Link} {s : State} {r : Request} {all : Bool} (h : s.asks l r) (hcode : r.code = 0x11#8)
    (hpayload : r.payload = [if all then 0#8 else 1#8]) (hin : s.inSession l = true) (hs : OwnershipSound s) :
    exec (if all then .detachWithdrawAll l else .detachLeave l) s = .next ((s.detached l all).finish l r) := by
  have hbody : detachRequest l r.payload s = needSession s l (s.detached l all) := by
    rw [detachRequest, parseDetach_eq_some.mpr hpayload, needPayload_some, State.detached,
      ← State.depart_tally hs l all .offline .left]
  cases all with
  | true => exact takeRequest_session h (by simp [isDetachWithdrawAll, codeDetach, hcode, hpayload]) hin hbody
  | false => exact takeRequest_session h (by simp [isDetachLeave, codeDetach, hcode, hpayload]) hin hbody

/-- Settles O14: the departure of the link, and the answer that counts what has become of its records. -/
theorem detachDeparts : Obligations.DetachDeparts := by
  refine ⟨fun s l q => State.adopts_iff, fun s l k => Table.findKey_isSome,
    fun l s r all h hcode hpayload hin hs => ?_⟩
  obtain ⟨hdeparted, htime, hport⟩ := State.depart_departed hs l all .offline .left
  have hrun := exec_detach h hcode hpayload hin hs
  rw [State.detached_finish] at hrun
  generalize (s.depart l all .offline .left).1 = t at *
  exact ⟨_, hrun, hdeparted.answer .., htime, State.answer_port_of_emptied hport ..⟩

end Sys2Proof.Machine

/-! ## FIND and QUERY (R176, R177) -/

namespace Sys2Proof.Machine

theorem Table.findKey_eq_some {t : Table} {l : Link} {k : Word16} {i : SlotIx} (h : t.findKey l k = some i) :
    ∃ q, t.record i = some q ∧ q.owner = some l ∧ q.key = k := by
  have hfound := List.find?_some h
  split at hfound
  · next q hq => exact ⟨q, hq, by simpa using hfound⟩
  · cases hfound

/-- The keys of a link are its own, one record each (R4), so the search finds the record that has the key. -/
theorem State.findKey_of_record {s : State} (hs : OwnershipSound s) {i : SlotIx} {q : Record} {l : Link}
    (hq : s.record i = some q) (howner : q.owner = some l) : s.table.findKey l q.key = some i := by
  obtain ⟨j, hj⟩ := Option.isSome_iff_exists.mp (Table.findKey_isSome.mpr ⟨i, q, hq, howner, rfl⟩)
  obtain ⟨p, hp, hpowner, hpkey⟩ := Table.findKey_eq_some hj
  rw [hj, hs.keys j i p q l hp hq hpowner howner hpkey]

theorem findRequest_found {l : Link} {b : List Byte} {s : State} {k : Word16} {i : SlotIx} (hin : s.inSession l = true)
    (hb : parseFind b = some k) (hi : s.table.findKey l k = some i) :
    findRequest l b s = .ok s (handleBytes i (s.slot i).gen) := by
  rw [findRequest, needSession_pass hin, hb, needPayload_some, hi]

theorem findRequest_notFound {l : Link} {b : List Byte} {s : State} {k : Word16} (hin : s.inSession l = true)
    (hb : parseFind b = some k) (hnone : s.table.findKey l k = none) : findRequest l b s = .refused s .notFound := by
  rw [findRequest, needSession_pass hin, hb, needPayload_some, hnone]

/-- Settles O28: the search for the key, found or not, and the record that the handle resolves to. -/
theorem findAndQueryRead : Obligations.FindAndQueryRead := by
  refine fun l s r h hin => ⟨fun k hcode hpayload hk => ?_, fun i g q hcode hpayload hresolve => ?_⟩
  · have hrun : exec (.find l) s = .next ((findRequest l r.payload s).finish l r) :=
      takeRequest_asks h (hasCode_of_eq hcode) (findRequest l)
    have hparsed : parseFind r.payload = some k := parseFind_eq_some.mpr ⟨hk, hpayload⟩
    refine ⟨fun hnone => ?_, fun i q hq howner hkey hs => ?_⟩
    · rw [hrun, findRequest_notFound hin hparsed (Table.findKey_eq_none.mpr hnone), Reply.refused_finish]
    · subst hkey
      rw [hrun, findRequest_found hin hparsed (State.findKey_of_record hs hq howner), Reply.ok_finish, handleBytes]
  · refine (takeRequest_session h (hasCode_of_eq hcode) hin (body := queryRequest l) rfl).trans ?_
    rw [hpayload, parseHandle_bytes, needPayload_some, needRecord_pass hresolve, Reply.ok_finish]
    rfl

end Sys2Proof.Machine

/-! ## A refusal changes nothing (R181, R182)

`AnswerFrame s y` says what a reply `y` to a request on `s` may have changed, by its answer. The checks of R181 and then the
bodies of the request rows keep to it, and a refusal's whole effect is read from it. -/

namespace Sys2Proof.Machine

/-- What a reply may have changed: anything under OK and ACCEPTED, nothing under another result, and while a TAKEOVER waits
without an answer (R139) not the ports. -/
inductive AnswerFrame (s : State) : Reply → Prop
  | ok (u : State) (payload : List Byte) : AnswerFrame s { state := u, answer := some (.ok, payload) }
  | accepted (u : State) (payload : List Byte) : AnswerFrame s { state := u, answer := some (.accepted, payload) }
  | refused (v : Result) (payload : List Byte) : AnswerFrame s { state := s, answer := some (v, payload) }
  | waits (u : State) (ports : u.ports = s.ports) : AnswerFrame s { state := u, answer := none }

theorem State.answer_slot (u : State) (l : Link) (r : Request) (v : Result) (payload : List Byte) :
    ((u.answer l r v payload).port l).slot = .answered { seq := r.seq, result := v, payload } := by
  simp [State.answer]

namespace AnswerFrame

/-- An answer other than OK and ACCEPTED has changed the ports alone (R138, R181). -/
theorem finish_refusal {s : State} {y : Reply} {l : Link} {r : Request} {a : Response} (h : AnswerFrame s y)
    (hexecuting : (s.port l).slot = .executing r) (hanswered : ((y.finish l r).port l).slot = .answered a)
    (hok : a.result ≠ .ok) (haccepted : a.result ≠ .accepted) :
    a.seq = r.seq ∧ y.finish l r = { s with ports := s.portsAnswering l r a.result a.payload } := by
  cases h with
  | ok u payload =>
    cases (u.answer_slot l r .ok payload).symm.trans hanswered
    exact absurd rfl hok
  | accepted u payload =>
    cases (u.answer_slot l r .accepted payload).symm.trans hanswered
    exact absurd rfl haccepted
  | refused v payload =>
    cases (s.answer_slot l r v payload).symm.trans hanswered
    exact ⟨rfl, s.answer_eq l r v payload⟩
  | waits u ports =>
    have hslot : (u.port l).slot = .executing r := by rw [State.port, ports]; exact hexecuting
    cases hslot.symm.trans hanswered

/-! ### The checks of R181 -/

section
variable {s : State} {l : Link}

theorem ite {c : Prop} [Decidable c] {y z : Reply} (hy : AnswerFrame s y) (hz : AnswerFrame s z) :
    AnswerFrame s (if c then y else z) := by
  split
  · exact hy
  · exact hz

theorem needSession {y : Reply} (h : AnswerFrame s y) : AnswerFrame s (needSession s l y) :=
  ite h (refused ..)

theorem needPrimary {y : Reply} (h : AnswerFrame s y) : AnswerFrame s (needPrimary s l y) :=
  ite h (refused ..)

theorem needPayload {α : Type} {p : Option α} {y : α → Reply} (h : ∀ x, AnswerFrame s (y x)) :
    AnswerFrame s (needPayload s p y) := by
  cases p with
  | none => exact refused ..
  | some x => exact h x

theorem needRecord {d : Handle} {y : Record → Reply} (h : ∀ q, AnswerFrame s (y q)) :
    AnswerFrame s (needRecord s d y) := by
  unfold Machine.needRecord
  split
  · exact h _
  · exact refused ..

theorem needOwner {q : Record} {o : Option Link} {y : Reply} (h : AnswerFrame s y) :
    AnswerFrame s (needOwner s q o y) :=
  ite h (refused ..)

theorem needIdleCommit {y : Reply} (h : AnswerFrame s y) : AnswerFrame s (needIdleCommit s y) :=
  ite h (refused ..)

/-- A request behind the session check (step 2). -/
theorem sessionRequest {α : Type} {p : Option α} {y : α → Reply} (h : ∀ x, AnswerFrame s (y x)) :
    AnswerFrame s (Machine.needSession s l (Machine.needPayload s p y)) :=
  needSession (needPayload h)

/-- A request of the primary (step 3). -/
theorem primaryRequest {α : Type} {p : Option α} {y : α → Reply} (h : ∀ x, AnswerFrame s (y x)) :
    AnswerFrame s (Machine.needSession s l (Machine.needPrimary s l (Machine.needPayload s p y))) :=
  needSession (needPrimary (needPayload h))

/-- A request on a record by its owner (steps 5 and 6). -/
theorem ownerRequest {α : Type} {p : Option α} {f : α → Handle} {y : α → Record → Reply} {o : Option Link}
    (h : ∀ x q, AnswerFrame s (y x q)) :
    AnswerFrame s (Machine.needSession s l (Machine.needPayload s p fun x => Machine.needRecord s (f x) fun q =>
      Machine.needOwner s q o (y x q))) :=
  sessionRequest fun x => needRecord fun q => needOwner (h x q)

end

/-! ### The requests -/

section
variable (l : Link) (b : List Byte) (s : State)

theorem attachRequest : AnswerFrame s (attachRequest l b s) :=
  needPayload fun _ => ite (refused ..) (ok ..)

theorem postRequest : AnswerFrame s (postRequest l b s) := by
  refine sessionRequest fun p => ite (refused ..) (ite (refused ..) ?_)
  split
  · exact refused ..
  · exact ok ..

theorem claimRequest : AnswerFrame s (claimRequest l b s) :=
  primaryRequest fun _ => needRecord fun _ => needOwner (ite (refused ..) (ok ..))

theorem findRequest : AnswerFrame s (findRequest l b s) := by
  refine sessionRequest fun k => ?_
  split
  · exact ok ..
  · exact refused ..

theorem readMapRequest : AnswerFrame s (readMapRequest l b s) :=
  needSession (ite (refused ..) (needPayload fun _ => ok ..))

theorem targetsRequest (ev : RecordEvent) (visible : State → List SlotIx) :
    AnswerFrame s (targetsRequest ev visible l b s) := by
  refine primaryRequest fun targets => ?_
  cases targets with
  | handles hs => exact ite (ok ..) (refused ..)
  | allVisible => exact ok ..

/-- A conflict is answered with its point and its groups; a commit that begins is ACCEPTED (R74, R75). -/
theorem commitMapRequest : AnswerFrame s (commitMapRequest l b s) := by
  refine primaryRequest fun _ => needIdleCommit ?_
  split
  · exact refused ..
  · exact accepted ..

theorem lampTestRequest : AnswerFrame s (lampTestRequest l b s) :=
  needSession (ite (needPayload fun _ => ok ..) (refused ..))

theorem permitRequest : AnswerFrame s (permitRequest l b s) :=
  primaryRequest fun _ => ite (ite (ok ..) (refused ..)) (ok ..)

theorem yieldRequest : AnswerFrame s (yieldRequest l b s) :=
  primaryRequest fun _ => needIdleCommit (ite (ok ..) (ok ..))

theorem takeRole : AnswerFrame s (s.takeRole l) := by
  unfold State.takeRole
  split
  · exact ok ..
  · exact ite (ok ..) (waits _ rfl)

theorem takeoverRequest : AnswerFrame s (takeoverRequest l b s) :=
  needSession (ite (refused ..) (needPayload fun _ => ite (refused ..) (takeRole l s)))

end

/-- Every request row keeps to its answer. -/
theorem requestBody (c : Instr) (b : List Byte) (s : State) : AnswerFrame s (requestBody c b s) := by
  cases c
  case attach l => exact attachRequest l b s
  case detachWithdrawAll | detachLeave | ping | setAttention | collect | listGroup | panelStatus =>
    exact sessionRequest fun _ => ok ..
  case permitGrant l | permitWithdraw l => exact permitRequest l b s
  case takeover l => exact takeoverRequest l b s
  case yieldRole l => exact yieldRequest l b s
  case claimOrphan l => exact claimRequest l b s
  case post l => exact postRequest l b s
  case amend | clear | withdraw => exact ownerRequest fun _ _ => ok ..
  case reassert => exact ownerRequest fun _ _ => ite (refused ..) (ok ..)
  case find l => exact findRequest l b s
  case query => exact sessionRequest fun _ => needRecord fun _ => ok ..
  case readMap l => exact readMapRequest l b s
  case acknowledgeHandles l | acknowledgeAllVisible l | remoteResetHandles l | remoteResetAllVisible l =>
    exact targetsRequest l b s ..
  case silence | abortMap | configure => exact primaryRequest fun _ => ok ..
  case retire => exact primaryRequest fun _ => needRecord fun _ => ok ..
  case stageMap | restart => exact primaryRequest fun _ => needIdleCommit (ok ..)
  case commitMap l => exact commitMapRequest l b s
  case lampTest l => exact lampTestRequest l b s
  all_goals exact refused ..

end AnswerFrame

/-- Settles O6: the row's reply keeps to its answer, and a refusal's effect is read from that. -/
theorem refusalChangesNothing : Obligations.RefusalChangesNothing := by
  intro c l takes s t r a hrow h ht hexec hanswered hok haccepted
  rw [exec_requestRow hrow, takeRequest_asks h ht] at hexec
  cases hexec
  obtain ⟨-, -, hexecuting⟩ := h
  exact (AnswerFrame.requestBody c r.payload s).finish_refusal hexecuting hanswered hok haccepted

end Sys2Proof.Machine
